-- ==== Sys2Proof/Word.lean ====
section
/-! DEFINITION. The word types of PFC: 8-bit bytes and 32-bit words (spec/10_state.md R24, R25). -/

namespace Sys2Proof

/-- A byte of pixel memory or an 8-bit request or response field. -/
abbrev Byte := BitVec 8

/-- A 32-bit request or response field; blend intermediates have this width too (spec/00_scope.md R9). -/
abbrev Word := BitVec 32

end Sys2Proof
end

