-- ==== Sys2Proof/Config.lean ====
section
/-! DEFINITION. The parameters of a PFC instance (spec/00_scope.md R8) and the values the spec leaves free. -/

namespace Sys2Proof

/-- `PIXEL_BYTE_ORDER` (R8, R42): how the bytes of a multi-byte pixel form its integer value. -/
inductive ByteOrder
  | le
  | be
  deriving DecidableEq, Repr

/-- The parameters of R8 that have a value in the spec. They are fixed for an instance: no step changes them. -/
structure Params where
  /-- `PIXEL_BYTE_ORDER`. -/
  byteOrder : ByteOrder
  /-- `DEBUG_ASSERT`: whether a precondition violation raises PRECONDITION (R224). -/
  debugAssert : Bool
  /-- `ADDR_WIDTH`: the width in bits of a byte address (R34, R46). -/
  addrWidth : Nat
  /-- `M565`: the lane mask of the packed 565 blend (R180). -/
  m565 : Word
  deriving DecidableEq, Repr

/-- The "value for this spec" column of R8. -/
def Config.specParams : Params :=
  { byteOrder := .le, debugAssert := false, addrWidth := 32, m565 := 0x07E0F81F#32 }

/-- FREE VALUE. `any_value(width)` of R11: the draw with number `k`. Nothing constrains it (R225; log 2). -/
opaque Config.anyValue (width k : Nat) : BitVec width

/-- FREE VALUE. Whether a read of byte address `addr` in transaction number `transaction` sees the write
at position `k` of the writes racing that transaction, or what stood there before (R48; log 12). -/
opaque Config.raceTakesNew (transaction addr k : Nat) : Bool

/-- OPEN parameter `GRAY_FROM_888` (R8, R161; log 3): any function of these widths. -/
opaque Config.grayFrom888 : BitVec 24 → Byte

/-- OPEN parameter `GRAY_FROM_565` (R8, R160; log 3): any function of these widths. -/
opaque Config.grayFrom565 : BitVec 16 → Byte

/-- OPEN parameter `MONO_FROM_888` (R8, R165; log 3): any function of these widths. -/
opaque Config.monoFrom888 : BitVec 24 → BitVec 1

/-- OPEN parameter `MONO_FROM_565` (R8, R164; log 3): any function of these widths. -/
opaque Config.monoFrom565 : BitVec 16 → BitVec 1

end Sys2Proof
end

