-- ==== Sys2Proof/Syntax.lean ====
section
/-! DEFINITION. The pixel formats, the target representations and the commands: one constructor of `Instr` for
each row of spec/opcode_table.json. -/

namespace Sys2Proof

/-- PixelFormat, the closed enumeration of R21 (spec/10_state.md), in its listed order. -/
inductive PixelFormat
  | unknown
  | rgb565
  | argb4444
  | argb6666
  | argb8565
  | rgb888
  | argb8888
  | indexed
  | mono
  | grayscale
  deriving DecidableEq, Repr

/-- The four target representations of R22 (spec/10_state.md), in their listed order. -/
inductive TargetRep
  | to565A5
  | to565A8
  | toArgb
  | toPacked32
  deriving DecidableEq, Repr

/-- A command word as the decoder reads it. FMT, REP and the handle are the only values a command word holds
(spec/30_encoding.md R67); every other operand is a request field. `decode` is the row DECODE: the decoder gives it
for the handles that have no row of their own (log 6). -/
inductive Instr
  /-- `HASALPHA` (spec/40_registry_dispatch.md R80). -/
  | hasAlpha (fmt : PixelFormat)
  /-- `BYTEWIDTH` (spec/40_registry_dispatch.md R81). -/
  | byteWidth (fmt : PixelFormat)
  /-- `LOOKUP` (spec/40_registry_dispatch.md R82). -/
  | lookup (fmt : PixelFormat) (rep : TargetRep)
  /-- `DECODE` (spec/40_registry_dispatch.md R83). -/
  | decode (handle : BitVec 8)
  /-- `CVT.RGB.565` (spec/42_conversion.md R151). -/
  | cvtRgbTo565
  /-- `CVT.565.RGB` (spec/42_conversion.md R152). -/
  | cvt565ToRgb
  /-- `CVT.888.565` (spec/42_conversion.md R153). -/
  | cvt888To565
  /-- `CVT.565.888` (spec/42_conversion.md R154). -/
  | cvt565To888
  /-- `CVT.8888.565A8` (spec/42_conversion.md R155). -/
  | cvt8888To565A8
  /-- `CVT.8888.565A5` (spec/42_conversion.md R156). -/
  | cvt8888To565A5
  /-- `CVT.8565.8888` (spec/42_conversion.md R157). -/
  | cvt8565To8888
  /-- `CVT.GRAY.565` (spec/42_conversion.md R158). -/
  | cvtGrayTo565
  /-- `CVT.GRAY.888` (spec/42_conversion.md R159). -/
  | cvtGrayTo888
  /-- `CVT.565.GRAY` (spec/42_conversion.md R160). -/
  | cvt565ToGray
  /-- `CVT.888.GRAY` (spec/42_conversion.md R161). -/
  | cvt888ToGray
  /-- `CVT.MONO.565` (spec/42_conversion.md R162). -/
  | cvtMonoTo565
  /-- `CVT.MONO.888` (spec/42_conversion.md R163). -/
  | cvtMonoTo888
  /-- `CVT.565.MONO` (spec/42_conversion.md R164). -/
  | cvt565ToMono
  /-- `CVT.888.MONO` (spec/42_conversion.md R165). -/
  | cvt888ToMono
  /-- `BLEND565` (spec/43_blend565.md R182). -/
  | blend565
  /-- `BLEND565.A8` (spec/43_blend565.md R183). -/
  | blend565A8
  /-- `PREP565` (spec/43_blend565.md R184). -/
  | prep565
  /-- `BLEND565P` (spec/43_blend565.md R185). -/
  | blend565p
  /-- `BLEND565P.A8` (spec/43_blend565.md R186). -/
  | blend565pA8
  /-- `BLEND888` (spec/44_blend888.md R202). -/
  | blend888
  /-- `PREP888` (spec/44_blend888.md R203). -/
  | prep888
  /-- `BLEND888P` (spec/44_blend888.md R204). -/
  | blend888p
  /-- `BLENDARGB` (spec/44_blend888.md R205). -/
  | blendargb
  /-- `DECODE.565A5.RGB565` (spec/41_decode.md R110). -/
  | decode565A5Rgb565
  /-- `DECODE.565A5.ARGB4444` (spec/41_decode.md R111). -/
  | decode565A5Argb4444
  /-- `DECODE.565A5.ARGB6666` (spec/41_decode.md R112). -/
  | decode565A5Argb6666
  /-- `DECODE.565A5.ARGB8565` (spec/41_decode.md R113). -/
  | decode565A5Argb8565
  /-- `DECODE.565A5.RGB888` (spec/41_decode.md R114). -/
  | decode565A5Rgb888
  /-- `DECODE.565A5.ARGB8888` (spec/41_decode.md R115). -/
  | decode565A5Argb8888
  /-- `DECODE.565A5.Mono` (spec/41_decode.md R116). -/
  | decode565A5Mono
  /-- `DECODE.565A5.Grayscale` (spec/41_decode.md R117). -/
  | decode565A5Grayscale
  /-- `DECODE.565A8.RGB565` (spec/41_decode.md R118). -/
  | decode565A8Rgb565
  /-- `DECODE.565A8.ARGB4444` (spec/41_decode.md R119). -/
  | decode565A8Argb4444
  /-- `DECODE.565A8.ARGB6666` (spec/41_decode.md R120). -/
  | decode565A8Argb6666
  /-- `DECODE.565A8.ARGB8565` (spec/41_decode.md R121). -/
  | decode565A8Argb8565
  /-- `DECODE.565A8.RGB888` (spec/41_decode.md R122). -/
  | decode565A8Rgb888
  /-- `DECODE.565A8.ARGB8888` (spec/41_decode.md R123). -/
  | decode565A8Argb8888
  /-- `DECODE.565A8.Mono` (spec/41_decode.md R124). -/
  | decode565A8Mono
  /-- `DECODE.565A8.Grayscale` (spec/41_decode.md R125). -/
  | decode565A8Grayscale
  /-- `DECODE.ARGB.RGB565` (spec/41_decode.md R126). -/
  | decodeArgbRgb565
  /-- `DECODE.ARGB.ARGB4444` (spec/41_decode.md R127). -/
  | decodeArgbArgb4444
  /-- `DECODE.ARGB.ARGB6666` (spec/41_decode.md R128). -/
  | decodeArgbArgb6666
  /-- `DECODE.ARGB.ARGB8565` (spec/41_decode.md R129). -/
  | decodeArgbArgb8565
  /-- `DECODE.ARGB.RGB888` (spec/41_decode.md R130). -/
  | decodeArgbRgb888
  /-- `DECODE.ARGB.ARGB8888` (spec/41_decode.md R131). -/
  | decodeArgbArgb8888
  /-- `DECODE.ARGB.Mono` (spec/41_decode.md R132). -/
  | decodeArgbMono
  /-- `DECODE.ARGB.Grayscale` (spec/41_decode.md R133). -/
  | decodeArgbGrayscale
  /-- `DECODE.PACKED32.RGB565` (spec/41_decode.md R134). -/
  | decodePacked32Rgb565
  /-- `DECODE.PACKED32.ARGB4444` (spec/41_decode.md R135). -/
  | decodePacked32Argb4444
  /-- `DECODE.PACKED32.ARGB6666` (spec/41_decode.md R136). -/
  | decodePacked32Argb6666
  /-- `DECODE.PACKED32.ARGB8565` (spec/41_decode.md R137). -/
  | decodePacked32Argb8565
  /-- `DECODE.PACKED32.RGB888` (spec/41_decode.md R138). -/
  | decodePacked32Rgb888
  /-- `DECODE.PACKED32.ARGB8888` (spec/41_decode.md R139). -/
  | decodePacked32Argb8888
  /-- `DECODE.PACKED32.Mono` (spec/41_decode.md R140). -/
  | decodePacked32Mono
  /-- `DECODE.PACKED32.Grayscale` (spec/41_decode.md R141). -/
  | decodePacked32Grayscale
  deriving DecidableEq, Repr

end Sys2Proof
end

