-- ==== Sys2Proof/Machine/Rom.lean ====
section
/-! DEFINITION. The constant ROMs of PFC (spec/10_state.md R30, R31) and the codes they are indexed by. They never
change (R250, R251), so they are definitions and not fields of State (log 14). -/

namespace Sys2Proof

/-- FMT, the 4-bit code of a pixel format: its position in the list of R21. -/
def PixelFormat.code : PixelFormat → BitVec 4
  | .unknown => 0
  | .rgb565 => 1
  | .argb4444 => 2
  | .argb6666 => 3
  | .argb8565 => 4
  | .rgb888 => 5
  | .argb8888 => 6
  | .indexed => 7
  | .mono => 8
  | .grayscale => 9

/-- The format a 4-bit code stands for; codes 10-15 are reserved (R21, R63). -/
def PixelFormat.ofCode? (c : BitVec 4) : Option PixelFormat :=
  match c.toNat with
  | 0 => some .unknown
  | 1 => some .rgb565
  | 2 => some .argb4444
  | 3 => some .argb6666
  | 4 => some .argb8565
  | 5 => some .rgb888
  | 6 => some .argb8888
  | 7 => some .indexed
  | 8 => some .mono
  | 9 => some .grayscale
  | _ => none

/-- REP, the 2-bit code of a target representation (R22, R64). -/
def TargetRep.code : TargetRep → BitVec 2
  | .to565A5 => 0
  | .to565A8 => 1
  | .toArgb => 2
  | .toPacked32 => 3

/-- The representation a 2-bit code stands for; all four codes are defined (R64). -/
def TargetRep.ofCode (c : BitVec 2) : TargetRep :=
  match c.toNat with
  | 0 => .to565A5
  | 1 => .to565A8
  | 2 => .toArgb
  | _ => .toPacked32

/-- The HASALPHA ROM (R31, R80). -/
def PixelFormat.hasAlpha : PixelFormat → Bool
  | .argb4444 | .argb6666 | .argb8565 | .argb8888 => true
  | .unknown | .rgb565 | .rgb888 | .indexed | .mono | .grayscale => false

/-- The BYTEWIDTH ROM (R31, R81). -/
def PixelFormat.byteWidth : PixelFormat → Nat
  | .unknown => 0
  | .rgb565 => 2
  | .argb4444 => 2
  | .argb6666 => 3
  | .argb8565 => 3
  | .rgb888 => 3
  | .argb8888 => 4
  | .indexed => 1
  | .mono => 0
  | .grayscale => 1

/-- How many bytes a DECODE of the format reads: its byte width, and 1 for Mono (spec/20_memory.md R44). -/
def PixelFormat.readWidth (fmt : PixelFormat) : Nat :=
  if fmt = .mono then 1 else fmt.byteWidth

/-- The formats that have decode routines: all but Unknown and Indexed (R21, R82). -/
def PixelFormat.decodable : PixelFormat → Bool
  | .unknown | .indexed => false
  | .rgb565 | .argb4444 | .argb6666 | .argb8565 | .rgb888 | .argb8888 | .mono | .grayscale => true

/-- The NULL handle, "no function available" (spec/30_encoding.md R66). -/
def nullHandle : BitVec 8 := 0x00#8

/-- The handle `0x40 | (REP << 4) | FMT` (R66). -/
def handleOf (rep : TargetRep) (fmt : PixelFormat) : BitVec 8 :=
  0x40#8 ||| (rep.code.zeroExtend 8 <<< 4) ||| fmt.code.zeroExtend 8

/-- The DISPATCH ROM (R30): one table for each representation, an entry for each of the 16 codes; NULL for Unknown,
Indexed and the codes 10 to 15. -/
def dispatchRom (rep : TargetRep) (code : BitVec 4) : BitVec 8 :=
  match PixelFormat.ofCode? code with
  | some fmt => if fmt.decodable then handleOf rep fmt else nullHandle
  | none => nullHandle

/-- The entry that LOOKUP reads: LOOKUP never reaches a code above 9 (R30). -/
def dispatch (rep : TargetRep) (fmt : PixelFormat) : BitVec 8 := dispatchRom rep fmt.code

/-- What a handle stands for (R66, R83): bit 7 clear, bit 6 set, REP in bits 5:4 and the code of a decodable
format in bits 3:0; every other handle stands for nothing. -/
def handleTarget? (h : BitVec 8) : Option (TargetRep × PixelFormat) :=
  if h.getLsbD 7 = false ∧ h.getLsbD 6 = true then
    match PixelFormat.ofCode? (h.extractLsb' 0 4) with
    | some fmt => if fmt.decodable then some (TargetRep.ofCode (h.extractLsb' 4 2), fmt) else none
    | none => none
  else none

/-- The 32 valid handles (R66). -/
def validHandle (h : BitVec 8) : Bool := (handleTarget? h).isSome

end Sys2Proof
end

