-- ==== Sys2Proof/WellFormed.lean ====
section
/-! DEFINITION. Which terms of `Instr` are the decoder's reading of some command word. -/

namespace Sys2Proof

/-- FMT and REP are legal by their types. The one check: a DECODE whose handle is one of the 32 valid ones is
written as that handle's own row (spec/30_encoding.md R72; log 6). -/
def Instr.wellFormed : Instr → Bool
  | .decode handle => !validHandle handle
  | .hasAlpha _ | .byteWidth _ | .lookup _ _ | .cvtRgbTo565 | .cvt565ToRgb | .cvt888To565 | .cvt565To888
  | .cvt8888To565A8 | .cvt8888To565A5 | .cvt8565To8888 | .cvtGrayTo565 | .cvtGrayTo888 | .cvt565ToGray
  | .cvt888ToGray | .cvtMonoTo565 | .cvtMonoTo888 | .cvt565ToMono | .cvt888ToMono | .blend565 | .blend565A8
  | .prep565 | .blend565p | .blend565pA8 | .blend888 | .prep888 | .blend888p | .blendargb | .decode565A5Rgb565
  | .decode565A5Argb4444 | .decode565A5Argb6666 | .decode565A5Argb8565 | .decode565A5Rgb888
  | .decode565A5Argb8888 | .decode565A5Mono | .decode565A5Grayscale | .decode565A8Rgb565
  | .decode565A8Argb4444 | .decode565A8Argb6666 | .decode565A8Argb8565 | .decode565A8Rgb888
  | .decode565A8Argb8888 | .decode565A8Mono | .decode565A8Grayscale | .decodeArgbRgb565 | .decodeArgbArgb4444
  | .decodeArgbArgb6666 | .decodeArgbArgb8565 | .decodeArgbRgb888 | .decodeArgbArgb8888 | .decodeArgbMono
  | .decodeArgbGrayscale | .decodePacked32Rgb565 | .decodePacked32Argb4444 | .decodePacked32Argb6666
  | .decodePacked32Argb8565 | .decodePacked32Rgb888 | .decodePacked32Argb8888 | .decodePacked32Mono
  | .decodePacked32Grayscale => true

end Sys2Proof
end

