-- ==== Sys2Proof/Decode.lean ====
section
/-! DEFINITION. The decoder of command words (spec/30_encoding.md R60-R73), total over all 2^32 words and refusing by
name, and after it the encoder. -/

namespace Sys2Proof

/-- Why a command word is illegal (R68), in the order of spec/60_exceptions.md R228 (steps 2, 3 and 4). -/
inductive IllegalWord
  /-- R68 (a): CMD[31:16] is not 0. -/
  | reservedBits
  /-- R68 (b): an OPC that R65 marks reserved. -/
  | reservedOpcode
  /-- R68 (c), (d), (e): a selector its form does not allow. -/
  | selector
  deriving DecidableEq, Repr

/-- What the decoder answers: a command, or why the word is illegal. -/
inductive Decoded
  | command (i : Instr)
  | illegal (why : IllegalWord)
  deriving DecidableEq, Repr

/-- OPC = CMD[7:0] (R61). -/
def cmdOpc (cmd : Word) : BitVec 8 := cmd.extractLsb' 0 8

/-- SEL = CMD[15:8] (R61). -/
def cmdSel (cmd : Word) : BitVec 8 := cmd.extractLsb' 8 8

/-- RSV = CMD[31:16] (R61). -/
def cmdRsv (cmd : Word) : BitVec 16 := cmd.extractLsb' 16 16

/-- The Z-form rows of the opcode map R65, by OPC. -/
def zFormTable : List (BitVec 8 × Instr) :=
  [(0x10#8, .cvtRgbTo565),
   (0x11#8, .cvt565ToRgb),
   (0x12#8, .cvt888To565),
   (0x13#8, .cvt565To888),
   (0x14#8, .cvt8888To565A8),
   (0x15#8, .cvt8888To565A5),
   (0x16#8, .cvt8565To8888),
   (0x17#8, .cvtGrayTo565),
   (0x18#8, .cvtGrayTo888),
   (0x19#8, .cvt565ToGray),
   (0x1A#8, .cvt888ToGray),
   (0x1B#8, .cvtMonoTo565),
   (0x1C#8, .cvtMonoTo888),
   (0x1D#8, .cvt565ToMono),
   (0x1E#8, .cvt888ToMono),
   (0x20#8, .blend565),
   (0x21#8, .blend565A8),
   (0x22#8, .prep565),
   (0x23#8, .blend565p),
   (0x24#8, .blend565pA8),
   (0x28#8, .blend888),
   (0x29#8, .prep888),
   (0x2A#8, .blend888p),
   (0x2B#8, .blendargb)]

/-- The 32 valid handles (R66) and their rows (R72), by handle. -/
def handleTable : List (BitVec 8 × Instr) :=
  [(0x41#8, .decode565A5Rgb565),
   (0x42#8, .decode565A5Argb4444),
   (0x43#8, .decode565A5Argb6666),
   (0x44#8, .decode565A5Argb8565),
   (0x45#8, .decode565A5Rgb888),
   (0x46#8, .decode565A5Argb8888),
   (0x48#8, .decode565A5Mono),
   (0x49#8, .decode565A5Grayscale)] ++
  [(0x51#8, .decode565A8Rgb565),
   (0x52#8, .decode565A8Argb4444),
   (0x53#8, .decode565A8Argb6666),
   (0x54#8, .decode565A8Argb8565),
   (0x55#8, .decode565A8Rgb888),
   (0x56#8, .decode565A8Argb8888),
   (0x58#8, .decode565A8Mono),
   (0x59#8, .decode565A8Grayscale)] ++
  [(0x61#8, .decodeArgbRgb565),
   (0x62#8, .decodeArgbArgb4444),
   (0x63#8, .decodeArgbArgb6666),
   (0x64#8, .decodeArgbArgb8565),
   (0x65#8, .decodeArgbRgb888),
   (0x66#8, .decodeArgbArgb8888),
   (0x68#8, .decodeArgbMono),
   (0x69#8, .decodeArgbGrayscale)] ++
  [(0x71#8, .decodePacked32Rgb565),
   (0x72#8, .decodePacked32Argb4444),
   (0x73#8, .decodePacked32Argb6666),
   (0x74#8, .decodePacked32Argb8565),
   (0x75#8, .decodePacked32Rgb888),
   (0x76#8, .decodePacked32Argb8888),
   (0x78#8, .decodePacked32Mono),
   (0x79#8, .decodePacked32Grayscale)]

/-- SEL in form F (R62): SEL[3:0] = FMT, SEL[7:4] = 0. -/
def selFormF (sel : BitVec 8) (row : PixelFormat → Instr) : Decoded :=
  if sel.extractLsb' 4 4 ≠ 0#4 then .illegal .selector
  else match PixelFormat.ofCode? (sel.extractLsb' 0 4) with
    | some fmt => .command (row fmt)
    | none => .illegal .selector

/-- SEL in form L (R62): SEL[3:0] = FMT, SEL[5:4] = REP, SEL[7:6] = 0. -/
def selFormL (sel : BitVec 8) (row : PixelFormat → TargetRep → Instr) : Decoded :=
  if sel.extractLsb' 6 2 ≠ 0#2 then .illegal .selector
  else match PixelFormat.ofCode? (sel.extractLsb' 0 4) with
    | some fmt => .command (row fmt (TargetRep.ofCode (sel.extractLsb' 4 2)))
    | none => .illegal .selector

/-- SEL in form H (R62): any value encodes; a valid handle is its row's command, any other is DECODE's (log 6). -/
def selFormH (sel : BitVec 8) : Decoded :=
  match handleTable.lookup sel with
  | some i => .command i
  | none => .command (.decode sel)

/-- SEL in form Z (R62): 0x00 only. -/
def selFormZ (sel : BitVec 8) (row : Instr) : Decoded :=
  if sel = 0x00#8 then .command row else .illegal .selector

/-- The decoder of R73, with the checks of R70 in their order. -/
def decodeCmd (cmd : Word) : Decoded :=
  if cmdRsv cmd ≠ 0x0000#16 then .illegal .reservedBits
  else if cmdOpc cmd = 0x01#8 then selFormF (cmdSel cmd) .hasAlpha
  else if cmdOpc cmd = 0x02#8 then selFormF (cmdSel cmd) .byteWidth
  else if cmdOpc cmd = 0x03#8 then selFormL (cmdSel cmd) .lookup
  else if cmdOpc cmd = 0x04#8 then selFormH (cmdSel cmd)
  else match zFormTable.lookup (cmdOpc cmd) with
    | some row => selFormZ (cmdSel cmd) row
    | none => .illegal .reservedOpcode

/-- The command word of an instruction, from the Encoding line of its rule. -/
def encode : Instr → Word
  | .hasAlpha fmt => 0x00000001#32 ||| (fmt.code.zeroExtend 32 <<< 8)
  | .byteWidth fmt => 0x00000002#32 ||| (fmt.code.zeroExtend 32 <<< 8)
  | .lookup fmt rep => 0x00000003#32 ||| (rep.code.zeroExtend 32 <<< 12) ||| (fmt.code.zeroExtend 32 <<< 8)
  | .decode handle => 0x00000004#32 ||| (handle.zeroExtend 32 <<< 8)
  | .cvtRgbTo565 => 0x00000010#32
  | .cvt565ToRgb => 0x00000011#32
  | .cvt888To565 => 0x00000012#32
  | .cvt565To888 => 0x00000013#32
  | .cvt8888To565A8 => 0x00000014#32
  | .cvt8888To565A5 => 0x00000015#32
  | .cvt8565To8888 => 0x00000016#32
  | .cvtGrayTo565 => 0x00000017#32
  | .cvtGrayTo888 => 0x00000018#32
  | .cvt565ToGray => 0x00000019#32
  | .cvt888ToGray => 0x0000001A#32
  | .cvtMonoTo565 => 0x0000001B#32
  | .cvtMonoTo888 => 0x0000001C#32
  | .cvt565ToMono => 0x0000001D#32
  | .cvt888ToMono => 0x0000001E#32
  | .blend565 => 0x00000020#32
  | .blend565A8 => 0x00000021#32
  | .prep565 => 0x00000022#32
  | .blend565p => 0x00000023#32
  | .blend565pA8 => 0x00000024#32
  | .blend888 => 0x00000028#32
  | .prep888 => 0x00000029#32
  | .blend888p => 0x0000002A#32
  | .blendargb => 0x0000002B#32
  | .decode565A5Rgb565 => 0x00004104#32
  | .decode565A5Argb4444 => 0x00004204#32
  | .decode565A5Argb6666 => 0x00004304#32
  | .decode565A5Argb8565 => 0x00004404#32
  | .decode565A5Rgb888 => 0x00004504#32
  | .decode565A5Argb8888 => 0x00004604#32
  | .decode565A5Mono => 0x00004804#32
  | .decode565A5Grayscale => 0x00004904#32
  | .decode565A8Rgb565 => 0x00005104#32
  | .decode565A8Argb4444 => 0x00005204#32
  | .decode565A8Argb6666 => 0x00005304#32
  | .decode565A8Argb8565 => 0x00005404#32
  | .decode565A8Rgb888 => 0x00005504#32
  | .decode565A8Argb8888 => 0x00005604#32
  | .decode565A8Mono => 0x00005804#32
  | .decode565A8Grayscale => 0x00005904#32
  | .decodeArgbRgb565 => 0x00006104#32
  | .decodeArgbArgb4444 => 0x00006204#32
  | .decodeArgbArgb6666 => 0x00006304#32
  | .decodeArgbArgb8565 => 0x00006404#32
  | .decodeArgbRgb888 => 0x00006504#32
  | .decodeArgbArgb8888 => 0x00006604#32
  | .decodeArgbMono => 0x00006804#32
  | .decodeArgbGrayscale => 0x00006904#32
  | .decodePacked32Rgb565 => 0x00007104#32
  | .decodePacked32Argb4444 => 0x00007204#32
  | .decodePacked32Argb6666 => 0x00007304#32
  | .decodePacked32Argb8565 => 0x00007404#32
  | .decodePacked32Rgb888 => 0x00007504#32
  | .decodePacked32Argb8888 => 0x00007604#32
  | .decodePacked32Mono => 0x00007804#32
  | .decodePacked32Grayscale => 0x00007904#32

/-- The decoder's reading of an instruction given as a number in the opcode table's bit numbering. A command is one
32-bit word (R60), so a longer instruction is none; bits above `nbits` are 0. -/
def decodeTableWord (nbits w : Nat) : Option Instr :=
  if nbits ≤ 32 then
    match decodeCmd (BitVec.ofNat 32 (w % 2 ^ nbits)) with
    | .command i => some i
    | .illegal _ => none
  else none

end Sys2Proof
end

