-- ==== Sys2Proof/Machine/State.lean ====
section
/-! DEFINITION. The state of PFC and of what stands around it, as plain data, and its value after reset
(spec/10_state.md). -/

namespace Sys2Proof.Machine

/-- The request fields of R24. The host supplies all of them with each request; a field its text omits is 0
(spec/30_encoding.md R71). ADDR is held as its unsigned value: the address arithmetic of spec/20_memory.md R43 takes
it modulo 2^ADDR_WIDTH. -/
structure Request where
  cmd : Word := 0
  a : Word := 0
  b : Word := 0
  c : Word := 0
  alpha : Byte := 0
  adef : Byte := 0
  bitix : Byte := 0
  addr : Nat := 0
  deriving DecidableEq, Repr

/-- The response fields of R25. `none` is an undriven field (R26): the spec's own state of a field, and never given a
value (log 4). -/
structure Response where
  status : Option Byte := none
  y0 : Option Word := none
  y1 : Option Word := none
  ya : Option Byte := none
  yr : Option Byte := none
  yg : Option Byte := none
  yb : Option Byte := none
  deriving DecidableEq, Repr

/-- Pixel memory's contents (R34): address and byte pairs in canonical form (log 8). -/
abbrev Memory := List Host.Cell

/-- A range of byte addresses that the platform backs with pixel memory (spec/20_memory.md R47). -/
structure Region where
  base : Nat
  size : Nat
  deriving DecidableEq, Repr

/-- The fault causes of spec/60_exceptions.md R220. -/
inductive Cause
  | illegalCommand
  | nullDecoder
  | precondition
  deriving DecidableEq, Repr

/-- What the host and the platform do next (R20; log 10). -/
inductive Action
  /-- The host issues a request and waits for its response; `racing` are the writes to pixel memory that other agents
  make while the transaction is in progress, in order (spec/20_memory.md R48; log 12). -/
  | request (r : Request) (racing : List Host.Cell)
  /-- The host or another platform agent writes a byte of pixel memory between transactions (R20 c). -/
  | write (addr : Nat) (b : Byte)
  /-- The platform's reset input, no transaction being in progress (spec/70_reset_and_hazards.md R250). -/
  | reset
  /-- The host issues a request whose transaction the platform's reset abandons (R250). -/
  | abandoned (r : Request)
  deriving DecidableEq, Repr

/-- Whose step comes next (R20: each agent has its own; log 10). -/
inductive Phase
  /-- No transaction is in progress: the host or the platform takes the next action of the program. -/
  | between
  /-- The host has issued a request: PFC performs it. -/
  | requested
  /-- The host has issued a request, and the platform's reset comes before PFC answers it (R250; log 13). -/
  | resetting
  /-- PFC has answered: the platform completes the racing writes that are left (log 12), then the host receives the
  response. -/
  | responded
  deriving DecidableEq, Repr

/-- Why a step has no next state. -/
inductive Fault
  /-- Raised by a DECODE whose read reaches a byte address that the platform does not admit (spec/20_memory.md R47,
  spec/60_exceptions.md R223): the transaction is stuck, and only the platform's reset leaves it. Safe: the hardware has no
  step there either (log 7). -/
  | stuckUnadmittedRead
  deriving DecidableEq, Repr

/-- Why an instruction has no meaning. -/
inductive Refusal
  /-- Raised by an arm of `exec` whose instruction has no meaning yet; no arm raises it now. Safe: the machine stops. -/
  | notModelled (mnemonic : String)
  deriving DecidableEq, Repr

/-- The state. -/
structure State where
  /-- STATUS, 8 bits (R27). -/
  status : BitVec 8
  /-- Whose step comes next (R20; log 10). -/
  phase : Phase
  /-- The request fields of the transaction in progress (R24). -/
  req : Request
  /-- The response fields (R25). -/
  rsp : Response
  /-- The parameters of the instance (spec/00_scope.md R8). -/
  params : Params
  /-- Pixel memory (R34). -/
  mem : Memory
  /-- The byte addresses the platform admits (spec/20_memory.md R47). -/
  admitted : List Region
  /-- The writes racing the transaction in progress that are not complete (spec/20_memory.md R48; log 12). -/
  racing : List Host.Cell
  /-- What is left of the program (R29), in order. -/
  program : List Action
  /-- The index of the host's next request, counted from 0 (R29; log 23). -/
  index : Nat
  /-- The responses the host has received, oldest first (spec/70_reset_and_hazards.md R259). -/
  responses : List Response
  /-- The MODEL'S own: the number of the next `any_value` draw (log 2). -/
  draws : Nat
  deriving DecidableEq, Repr

/-- What a step or a meaning answers. -/
abbrev Result := Host.Outcome State Fault Refusal

/-- The state after reset (R36, R250): STATUS, the undriven response and a PFC ready for its first request are the
spec's. The rest is the model's choice where the spec gives no value: the request fields (log 9), memory and its map
(log 8), the parameters at the values of R8 (log 1), no program and no write in flight (log 10), the host's index 0 and no
response received (log 23), the draw counter 0 (log 2). -/
def State.reset : State where
  status := 0x00#8
  phase := .between
  req := {}
  rsp := {}
  params := Config.specParams
  mem := []
  admitted := [{ base := 0, size := 2 ^ 32 }]
  racing := []
  program := []
  index := 0
  responses := []
  draws := 0

end Sys2Proof.Machine
end

