-- ==== Sys2Proof/Machine/Flags.lean ====
section
/-! DEFINITION. The STATUS register, the only flags PFC has (spec/10_state.md R27, R33). -/

namespace Sys2Proof.Machine

/-- The cause codes of spec/60_exceptions.md R220. -/
def Cause.code : Cause → BitVec 3
  | .illegalCommand => 1
  | .nullDecoder => 2
  | .precondition => 3

/-- STATUS with FAULT = 1 and a cause: bits 7:4 are 0, CAUSE in bits 3:1, FAULT in bit 0 (R27, R226). -/
def faultStatus (c : Cause) : BitVec 8 := (c.code.zeroExtend 8 <<< 1) ||| 0x01#8

/-- STATUS as it is read: bits 7:4 are hardwired 0 (R27; log 19). -/
def State.statusRead (s : State) : BitVec 8 := s.status &&& 0x0F#8

/-- STATUS.FAULT, bit 0 (R27). -/
def State.faulted (s : State) : Bool := s.status.getLsbD 0

/-- STATUS.CAUSE, bits 3:1 (R27). -/
def State.cause (s : State) : BitVec 3 := s.status.extractLsb' 1 3

/-- Writes STATUS; its reserved bits take no value (R27). -/
def State.setStatus (v : BitVec 8) (s : State) : State := { s with status := v &&& 0x0F#8 }

end Sys2Proof.Machine
end

