-- ==== Sys2Proof/Machine/Ops.lean ====
section
/-! DEFINITION. The operations over pixel memory, requests and responses that every meaning shares, fault entry, and the
moves of the host and the platform. -/

namespace Sys2Proof.Machine

/-! ## Pixel memory -/

/-- What an admitted byte that nothing has written reads as (log 8). -/
def unlistedByte : Byte := 0x00#8

/-- The byte stored at an address. -/
def Memory.readByte : Memory → Nat → Byte
  | [], _ => unlistedByte
  | (k, v) :: m, a => if k = a then v else Memory.readByte m a

/-- Stores a byte, keeping the canonical form. -/
def Memory.writeByte : Memory → Nat → Byte → Memory
  | [], a, b => if b = unlistedByte then [] else [(a, b)]
  | (k, v) :: m, a, b =>
    if a < k then (if b = unlistedByte then (k, v) :: m else (a, b) :: (k, v) :: m)
    else if a = k then (if b = unlistedByte then m else (a, b) :: m)
    else (k, v) :: Memory.writeByte m a b

/-- The canonical form from an address on: addresses strictly rising, and no entry that an unlisted address would read
the same. -/
def Memory.wfFrom : Nat → Memory → Bool
  | _, [] => true
  | lo, (k, v) :: m => decide (lo ≤ k) && decide (v ≠ unlistedByte) && Memory.wfFrom (k + 1) m

/-- The canonical form. -/
def Memory.wf (m : Memory) : Bool := Memory.wfFrom 0 m

/-- A byte address as the machine uses it: modulo 2^ADDR_WIDTH (spec/20_memory.md R46). -/
def State.byteAddr (s : State) (x : Nat) : Nat := x % 2 ^ s.params.addrWidth

/-- Whether the platform admits a byte address (R47). -/
def State.admits (s : State) (a : Nat) : Bool :=
  s.admitted.any fun r => decide (r.base ≤ a) && decide (a < r.base + r.size)

/-- The byte a read sees at `a` when the writes `ws`, the first of them at position `k`, race it: each write to `a` is
seen or not by a free choice (R48; log 12). -/
def raceByte (transaction addrWidth a : Nat) : Nat → List Host.Cell → Byte → Byte
  | _, [], old => old
  | k, w :: ws, old =>
    raceByte transaction addrWidth a (k + 1) ws
      (if w.1 % 2 ^ addrWidth = a then
        (if Config.raceTakesNew transaction a k then w.2 else old)
      else old)

/-- One byte read by PFC; none where the platform admits no memory (R47). -/
def State.readByte (s : State) (a : Nat) : Option Byte :=
  if s.admits a then
    some (raceByte s.index s.params.addrWidth a 0 s.racing (s.mem.readByte a))
  else none

/-- The `n` bytes at `addr`, `addr` + 1, ... in order of increasing address (R43). -/
def State.readBytes (s : State) (addr : Nat) : Nat → Option (List Byte)
  | 0 => some []
  | n + 1 =>
    match s.readBytes addr n, s.readByte (s.byteAddr (addr + n)) with
    | some bs, some b => some (bs ++ [b])
    | _, _ => none

/-- How far left byte `i` of `n` goes in the integer the bytes form (R42). -/
def byteShift (o : ByteOrder) (n i : Nat) : Nat :=
  match o with
  | .le => 8 * i
  | .be => 8 * (n - 1 - i)

/-- The integer that bytes `i`, `i` + 1, ... of an `n`-byte pixel form (R42). -/
def placeBytes (o : ByteOrder) (n : Nat) : Nat → List Byte → Word
  | _, [] => 0
  | i, b :: bs => (b.zeroExtend 32 <<< byteShift o n i) ||| placeBytes o n (i + 1) bs

/-- `MemRead(addr, n)` (R43); none where the transaction is stuck. -/
def State.memRead (s : State) (addr n : Nat) : Option Word :=
  (s.readBytes addr n).map (placeBytes s.params.byteOrder n 0)

/-! ## Responses and faults -/

/-- Ends the transaction with the driven fields of `r`; STATUS is driven by every transaction (spec/10_state.md R26). -/
def State.respond (r : Response) (s : State) : State := { s with rsp := { r with status := some s.statusRead } }

/-- Passes over `n` draws. -/
def State.advanceDraws (n : Nat) (s : State) : State := { s with draws := s.draws + n }

/-- The state that fault entry leaves (spec/60_exceptions.md R226): FAULT set, CAUSE written, STATUS the only field
driven, nothing else saved or changed. -/
def State.enterFault (c : Cause) (s : State) : State := (s.setStatus (faultStatus c)).respond {}

/-- `raise Fault(cause)` (R226). -/
def raiseFault (c : Cause) (s : State) : Result := .next (s.enterFault c)

/-- The first line of the common check (spec/30_encoding.md R70): in the halted state a request is answered HALTED,
which drives only STATUS and changes nothing (spec/60_exceptions.md R227); otherwise the command's rule runs. There is no
return from a fault but reset. -/
def transact (s : State) (body : Result) : Result :=
  if s.faulted then .next (s.respond {}) else body

/-- The meaning of an illegal command word (R221). -/
def illegalCommand (s : State) : Result := transact s (raiseFault .illegalCommand s)

/-- A precondition of R224: where it fails, PRECONDITION with DEBUG_ASSERT = 1, else the draws of R225. -/
def checked (ok : Bool) (s : State) (violated body : Result) : Result :=
  if ok then body else if s.params.debugAssert then raiseFault .precondition s else violated

/-- Ends the transaction with a response that took `n` draws (R225). -/
def respondDrawn (n : Nat) (r : Response) (s : State) : Result := .next ((s.respond r).advanceDraws n)

/-- The pixel read of a DECODE (spec/40_registry_dispatch.md R83): stuck on an unadmitted byte (R223), else `body` on the
value read. -/
def withPixel (fmt : PixelFormat) (s : State) (body : Word → Result) : Result :=
  match s.memRead s.req.addr fmt.readWidth with
  | some v => body v
  | none => .fault .stuckUnadmittedRead

/-! ## The host and the platform -/

/-- A platform agent's write to pixel memory (spec/10_state.md R20 c); where the platform admits no memory there is
nothing to write (log 15). -/
def State.platformWrite (a : Nat) (b : Byte) (s : State) : State :=
  if s.admits (s.byteAddr a) then { s with mem := s.mem.writeByte (s.byteAddr a) b } else s

/-- The host issues a request while `racing` are in flight; what is left of the program is `rest`. No field is driven
before the response (spec/10_state.md R26). -/
def State.present (next : Phase) (r : Request) (racing : List Host.Cell) (rest : List Action) (s : State) : State :=
  { s with phase := next, req := r, rsp := {}, racing := racing, program := rest }

/-- PFC has answered: what is left is the platform's and the host's (spec/10_state.md R20). -/
def State.answered (s : State) : State := { s with phase := .responded }

/-- PFC's step (spec/10_state.md R20 b), given its answer. -/
def performed : Result → Result
  | .next s => .next s.answered
  | .fault f => .fault f
  | .refused r => .refused r

/-- A platform agent completes a write that raced the transaction; `ws` are the writes that follow it (log 12). -/
def State.completeWrite (w : Host.Cell) (ws : List Host.Cell) (s : State) : State :=
  { s with racing := ws }.platformWrite w.1 w.2

/-- The host receives the response (spec/10_state.md R20 a), and its index advances by exactly 1 (R29). -/
def State.receive (s : State) : State :=
  { s with phase := .between, index := s.index + 1, responses := s.responses ++ [s.rsp] }

/-- The reset of spec/70_reset_and_hazards.md R250. -/
def State.platformReset (s : State) : State :=
  { s with status := 0x00#8, phase := .between, rsp := {}, racing := [] }

/-- Reset while a transaction is in progress: it is abandoned, no response is given for it (R250), and the host goes on
to its next request (log 13). -/
def State.abandon (s : State) : State := { s.platformReset with index := s.index + 1 }

end Sys2Proof.Machine
end

