-- ==== Sys2Proof/Machine/Operands.lean ====
section
/-! DEFINITION. Channel arithmetic, packing and pixel layouts (spec/00_scope.md R12, spec/41_decode.md R100,
spec/43_blend565.md R180, R181, spec/44_blend888.md R200, R201), and the response shapes of the four target representations
(spec/10_state.md R22). All shifts are logical and all arithmetic is modulo 2^width (R10). -/

namespace Sys2Proof.Machine

/-! ## Channels (R12) -/

def x5to8 (v : BitVec 5) : BitVec 8 := (v.zeroExtend 8 <<< 3) ||| (v.zeroExtend 8 >>> 2)

def x6to8 (v : BitVec 6) : BitVec 8 := (v.zeroExtend 8 <<< 2) ||| (v.zeroExtend 8 >>> 4)

def x4to8 (v : BitVec 4) : BitVec 8 := (v.zeroExtend 8 <<< 4) ||| v.zeroExtend 8

def x4to5 (v : BitVec 4) : BitVec 5 := (v.zeroExtend 5 <<< 1) ||| (v.zeroExtend 5 >>> 3)

def x4to6 (v : BitVec 4) : BitVec 6 := (v.zeroExtend 6 <<< 2) ||| (v.zeroExtend 6 >>> 2)

def n8to5 (v : BitVec 8) : BitVec 5 := (v >>> 3).truncate 5

def n8to6 (v : BitVec 8) : BitVec 6 := (v >>> 2).truncate 6

def n6to5 (v : BitVec 6) : BitVec 5 := (v >>> 1).truncate 5

def pack565 (r : BitVec 5) (g : BitVec 6) (b : BitVec 5) : BitVec 16 :=
  (r.zeroExtend 16 <<< 11) ||| (g.zeroExtend 16 <<< 5) ||| b.zeroExtend 16

def pack888 (r g b : BitVec 8) : BitVec 24 :=
  (r.zeroExtend 24 <<< 16) ||| (g.zeroExtend 24 <<< 8) ||| b.zeroExtend 24

def pack8888 (a r g b : BitVec 8) : BitVec 32 :=
  (a.zeroExtend 32 <<< 24) ||| (pack888 r g b).zeroExtend 32

/-- The red field of an RGB565 value. -/
def r5 (c : BitVec 16) : BitVec 5 := c.extractLsb' 11 5

/-- The green field of an RGB565 value. -/
def g6 (c : BitVec 16) : BitVec 6 := c.extractLsb' 5 6

/-- The blue field of an RGB565 value. -/
def b5 (c : BitVec 16) : BitVec 5 := c.extractLsb' 0 5

/-! ## Byte lanes (R100; the operand lanes of the conversions and blends are the same) -/

/-- Bits 31:24. -/
def laneA (v : Word) : Byte := v.extractLsb' 24 8

/-- Bits 23:16. -/
def laneR (v : Word) : Byte := v.extractLsb' 16 8

/-- Bits 15:8. -/
def laneG (v : Word) : Byte := v.extractLsb' 8 8

/-- Bits 7:0. -/
def laneB (v : Word) : Byte := v.extractLsb' 0 8

/-- Bits 15:0, an RGB565 value. -/
def low16 (v : Word) : BitVec 16 := v.extractLsb' 0 16

/-- Bits 23:0, an RGB888 value. -/
def low24 (v : Word) : BitVec 24 := v.extractLsb' 0 24

/-- The RGB565 color of the byte lanes R, G and B, narrowed by truncation. -/
def lanesTo565 (v : Word) : BitVec 16 := pack565 (n8to5 (laneR v)) (n8to6 (laneG v)) (n8to5 (laneB v))

/-- The RGB565 color of one intensity in all three channels (R117). -/
def grayTo565 (y : Byte) : BitVec 16 := pack565 (n8to5 y) (n8to6 y) (n8to5 y)

/-- The RGB565 color of the fields of an ARGB4444 value (R111). -/
def argb4444To565 (v : Word) : BitVec 16 :=
  pack565 (x4to5 (v.extractLsb' 8 4)) (x4to6 (v.extractLsb' 4 4)) (x4to5 (v.extractLsb' 0 4))

/-- A4 of an ARGB4444 value. -/
def argb4444Alpha (v : Word) : BitVec 4 := v.extractLsb' 12 4

/-- The RGB565 color of the fields of an ARGB6666 value (R112). -/
def argb6666To565 (v : Word) : BitVec 16 :=
  pack565 (n6to5 (v.extractLsb' 12 6)) (v.extractLsb' 6 6) (n6to5 (v.extractLsb' 0 6))

/-- A6 of an ARGB6666 value. -/
def argb6666Alpha (v : Word) : BitVec 6 := v.extractLsb' 18 6

/-- A8 of an ARGB8565 value (its C is `low16`). -/
def argb8565Alpha (v : Word) : Byte := v.extractLsb' 16 8

/-- An 8-bit color with its alpha: what the ARGB and PACKED32 representations hold. -/
structure Argb where
  a : Byte
  r : Byte
  g : Byte
  b : Byte
  deriving DecidableEq, Repr

/-- An RGB565 color widened by replication (R104, R126). -/
def widen565 (a : Byte) (c : BitVec 16) : Argb := { a := a, r := x5to8 (r5 c), g := x6to8 (g6 c), b := x5to8 (b5 c) }

/-- The channels of an ARGB4444 value, widened by replication (R127). -/
def widen4444 (v : Word) : Argb :=
  { a := x4to8 (argb4444Alpha v), r := x4to8 (v.extractLsb' 8 4), g := x4to8 (v.extractLsb' 4 4)
    b := x4to8 (v.extractLsb' 0 4) }

/-- The channels of an ARGB6666 value, widened by replication (R128). -/
def widen6666 (v : Word) : Argb :=
  { a := x6to8 (argb6666Alpha v), r := x6to8 (v.extractLsb' 12 6), g := x6to8 (v.extractLsb' 6 6)
    b := x6to8 (v.extractLsb' 0 6) }

/-- The byte lanes of a value with a given alpha (R130, R131). -/
def lanesArgb (a : Byte) (v : Word) : Argb := { a := a, r := laneR v, g := laneG v, b := laneB v }

/-- One intensity in all three channels (R133). -/
def grayArgb (a y : Byte) : Argb := { a := a, r := y, g := y, b := y }

/-- The selected bit of a Mono byte, bit index 0 being its most significant bit (R102). -/
def monoBit (b : Byte) (bitix : Byte) : Bool := b.getLsbD (7 - bitix.toNat)

/-- An RGB565 value expanded by zero fill, the conversion library's expansion (spec/42_conversion.md R150). -/
def z565to888 (c : BitVec 16) : Word :=
  ((r5 c).zeroExtend 32 <<< 3 <<< 16) ||| ((g6 c).zeroExtend 32 <<< 2 <<< 8) ||| ((b5 c).zeroExtend 32 <<< 3)

/-! ## Response shapes (R22, R25): bits of a driven field above its value's width are 0 -/

/-- A value in Y0. -/
def inY0 {w : Nat} (v : BitVec w) : Response := { y0 := some (v.zeroExtend 32) }

/-- 565A5 and 565A8: the color in Y0[15:0], the alpha in YA. -/
def color565 {w : Nat} (c : BitVec 16) (alpha : BitVec w) : Response :=
  { y0 := some (c.zeroExtend 32), ya := some (alpha.zeroExtend 8) }

/-- ARGB: the four channels in YA, YR, YG, YB. -/
def channels (c : Argb) : Response := { ya := some c.a, yr := some c.r, yg := some c.g, yb := some c.b }

/-- PACKED32: the four channels in Y0. -/
def packed32 (c : Argb) : Response := { y0 := some (pack8888 c.a c.r c.g c.b) }

/-- The RGB components without an alpha (R152, R205). -/
def components (r g b : Byte) : Response := { yr := some r, yg := some g, yb := some b }

/-! ## The 565 blend -/

/-- The packed word of R180, under the lane mask `m565`. -/
def spread565 (m565 : Word) (c : BitVec 16) : Word :=
  (c.zeroExtend 32 ||| (c.zeroExtend 32 <<< 16)) &&& m565

/-- The core blend of R181: a spread foreground over a background with a 5-bit alpha, the shift before the addition
(spec/90_conflicts.md C2). -/
def blend565core (m565 fgSpread : Word) (bg : BitVec 16) (alpha : Byte) : BitVec 16 :=
  let bw := spread565 m565 bg
  let t := ((fgSpread - bw) * alpha.zeroExtend 32) >>> 5
  let r := (t + bw) &&& m565
  (r ||| (r >>> 16)).truncate 16

/-! ## The 888 blend -/

/-- The mask of the red-blue word (R200). -/
def maskRB : Word := 0x00FF00FF#32

/-- The mask of the green word (R200). -/
def maskG : Word := 0x0000FF00#32

/-- `RB(c)` (R200). -/
def redBlueWord (c : Word) : Word := c &&& maskRB

/-- `GW(c)` (R200). -/
def greenWord (c : Word) : Word := c &&& maskG

/-- The interpolation of one word (R201): alpha weights the background (spec/90_conflicts.md C6). -/
def lerp888 (w bw : Word) (alpha : Byte) (mask : Word) : Word :=
  (w + (((bw - w) * alpha.zeroExtend 32) >>> 8)) &&& mask

/-- The core blend of R201. -/
def blend888core (frb fg bg : Word) (alpha : Byte) : Word :=
  lerp888 frb (redBlueWord bg) alpha maskRB ||| lerp888 fg (greenWord bg) alpha maskG

end Sys2Proof.Machine
end

