-- ==== Sys2Proof/Machine/Blend565.lean ====
section
/-! DEFINITION. The bit-packed RGB565 blends and the prepared 565 path (spec/43_blend565.md R182-R186). No result is clamped
(R189). -/

namespace Sys2Proof.Machine

/-- Whether a prepared 565 word has no bit outside the lane mask (R185). -/
def prepared565 (s : State) : Bool := decide (s.req.a &&& ~~~s.params.m565 = 0#32)

/-- The draw that stands for a 565 blend's undefined output (R225). -/
def drawn565 (s : State) : Result := respondDrawn 1 (inY0 (Config.anyValue 16 s.draws)) s

/-- R182. -/
def execBlend565 (s : State) : Result :=
  transact s (checked (decide (s.req.alpha ≤ 31#8)) s (drawn565 s)
    (.next (s.respond (inY0
      (blend565core s.params.m565 (spread565 s.params.m565 (low16 s.req.a)) (low16 s.req.b) s.req.alpha)))))

/-- R183. -/
def execBlend565A8 (s : State) : Result :=
  transact s (.next (s.respond (inY0
    (blend565core s.params.m565 (spread565 s.params.m565 (low16 s.req.a)) (low16 s.req.b) (s.req.alpha >>> 3)))))

/-- R184. -/
def execPrep565 (s : State) : Result :=
  transact s (.next (s.respond (inY0 (spread565 s.params.m565 (low16 s.req.a)))))

/-- R185. -/
def execBlend565p (s : State) : Result :=
  transact s (checked (decide (s.req.alpha ≤ 31#8) && prepared565 s) s (drawn565 s)
    (.next (s.respond (inY0 (blend565core s.params.m565 s.req.a (low16 s.req.b) s.req.alpha)))))

/-- R186. -/
def execBlend565pA8 (s : State) : Result :=
  transact s (checked (prepared565 s) s (drawn565 s)
    (.next (s.respond (inY0 (blend565core s.params.m565 s.req.a (low16 s.req.b) (s.req.alpha >>> 3))))))

end Sys2Proof.Machine
end

