-- ==== Sys2Proof/Machine/Blend888.lean ====
section
/-! DEFINITION. The bit-packed RGB888 blends, the prepared 888 path and the ARGB-component blend (spec/44_blend888.md R202-R205).
Every ALPHA value is legal. -/

namespace Sys2Proof.Machine

/-- Whether a pair of prepared 888 words has no bit outside the masks (R204). -/
def prepared888 (s : State) : Bool :=
  decide (s.req.a &&& ~~~maskRB = 0#32 ∧ s.req.c &&& ~~~maskG = 0#32)

/-- R202. -/
def execBlend888 (s : State) : Result :=
  transact s (.next (s.respond (inY0
    (blend888core (redBlueWord s.req.a) (greenWord s.req.a) s.req.b s.req.alpha))))

/-- R203. -/
def execPrep888 (s : State) : Result :=
  transact s (.next (s.respond { y0 := some (redBlueWord s.req.a), y1 := some (greenWord s.req.a) }))

/-- R204. -/
def execBlend888p (s : State) : Result :=
  transact s (checked (prepared888 s) s (respondDrawn 1 (inY0 (Config.anyValue 24 s.draws)) s)
    (.next (s.respond (inY0 (blend888core s.req.a s.req.c s.req.b s.req.alpha)))))

/-- The red-blue word of byte lanes (R205). -/
def redBlueOfLanes (v : Word) : Word := ((laneR v).zeroExtend 32 <<< 16) ||| (laneB v).zeroExtend 32

/-- The green word of byte lanes (R205). -/
def greenOfLanes (v : Word) : Word := (laneG v).zeroExtend 32 <<< 8

/-- R205: no alpha output. -/
def execBlendargb (s : State) : Result :=
  let rb := lerp888 (redBlueOfLanes s.req.a) (redBlueOfLanes s.req.b) s.req.alpha maskRB
  let gw := lerp888 (greenOfLanes s.req.a) (greenOfLanes s.req.b) s.req.alpha maskG
  transact s (.next (s.respond (components (laneR rb) (laneG gw) (laneB rb))))

end Sys2Proof.Machine
end

