-- ==== Sys2Proof/Machine/Conversion.lean ====
section
/-! DEFINITION. The conversion library (spec/42_conversion.md R151-R165): expansion by zero fill (R150), narrowing by truncation;
each command reads request field A only and raises nothing of its own. -/

namespace Sys2Proof.Machine

/-- A conversion: the common check, then a response. -/
def convert (s : State) (r : Response) : Result := transact s (.next (s.respond r))

/-- R151. -/
def execCvtRgbTo565 (s : State) : Result :=
  convert s (inY0 (lanesTo565 s.req.a))

/-- R152. -/
def execCvt565ToRgb (s : State) : Result :=
  convert s (components ((r5 (low16 s.req.a)).zeroExtend 8 <<< 3) ((g6 (low16 s.req.a)).zeroExtend 8 <<< 2)
    ((b5 (low16 s.req.a)).zeroExtend 8 <<< 3))

/-- R153. -/
def execCvt888To565 (s : State) : Result :=
  convert s (inY0 (lanesTo565 s.req.a))

/-- R154. -/
def execCvt565To888 (s : State) : Result :=
  convert s (inY0 (z565to888 (low16 s.req.a)))

/-- R155. -/
def execCvt8888To565A8 (s : State) : Result :=
  convert s (color565 (lanesTo565 s.req.a) (laneA s.req.a >>> 0))

/-- R156. -/
def execCvt8888To565A5 (s : State) : Result :=
  convert s (color565 (lanesTo565 s.req.a) (laneA s.req.a >>> 3))

/-- R157. -/
def execCvt8565To8888 (s : State) : Result :=
  convert s (inY0 (((argb8565Alpha s.req.a).zeroExtend 32 <<< 24) ||| z565to888 (low16 s.req.a)))

/-- R158. -/
def execCvtGrayTo565 (s : State) : Result :=
  convert s (inY0 (grayTo565 (laneB s.req.a)))

/-- R159. -/
def execCvtGrayTo888 (s : State) : Result :=
  convert s (inY0 (pack888 (laneB s.req.a) (laneB s.req.a) (laneB s.req.a)))

/-- R160. -/
def execCvt565ToGray (s : State) : Result :=
  convert s (inY0 (Config.grayFrom565 (low16 s.req.a)))

/-- R161. -/
def execCvt888ToGray (s : State) : Result :=
  convert s (inY0 (Config.grayFrom888 (low24 s.req.a)))

/-- R162. -/
def execCvtMonoTo565 (s : State) : Result :=
  convert s (inY0 (if s.req.a.getLsbD 0 then 0xFFFF#16 else 0x0000#16))

/-- R163. -/
def execCvtMonoTo888 (s : State) : Result :=
  convert s (inY0 (if s.req.a.getLsbD 0 then 0xFFFFFF#24 else 0x000000#24))

/-- R164. -/
def execCvt565ToMono (s : State) : Result :=
  convert s (inY0 (Config.monoFrom565 (low16 s.req.a)))

/-- R165. -/
def execCvt888ToMono (s : State) : Result :=
  convert s (inY0 (Config.monoFrom888 (low24 s.req.a)))

end Sys2Proof.Machine
end

