-- ==== Sys2Proof/Machine/DecodeRoutines.lean ====
section
/-! DEFINITION. The DECODE routines (spec/41_decode.md R110-R141) and DECODE itself (spec/40_registry_dispatch.md R83). A routine
runs after the common check, reads its pixel and drives what its rule names; no byte pattern faults (R85, R100). -/

namespace Sys2Proof.Machine

/-- A routine whose response is a function of the value read and the request. -/
def decodeRoutine (fmt : PixelFormat) (s : State) (k : Word → Response) : Result :=
  transact s (withPixel fmt s fun v => .next (s.respond (k v)))

/-- A Mono routine (R102): `lit` drives the color of the selected bit; `drawn` is the response with `n` draws where BITIX
is above 7 and DEBUG_ASSERT = 0, and PRECONDITION is raised before the read where DEBUG_ASSERT = 1 (R224, R225, R228). -/
def decodeMonoRoutine (s : State) (n : Nat) (drawn : Response) (lit : Bool → Response) : Result :=
  transact s (checked (decide (s.req.bitix ≤ 7#8)) s
    (withPixel .mono s fun _ => respondDrawn n drawn s)
    (withPixel .mono s fun v => .next (s.respond (lit (monoBit (laneB v) s.req.bitix)))))

/-- White or black in 16 bits (R116). -/
def mono565 (m : Bool) : BitVec 16 := if m then 0xFFFF#16 else 0x0000#16

/-- White or black in 8 bits (R132). -/
def mono8 (m : Bool) : Byte := if m then 0xFF#8 else 0x00#8

/-- White or black in 24 bits (R140). -/
def mono24 (m : Bool) : BitVec 24 := if m then 0xFFFFFF#24 else 0x000000#24

/-- ADEF over a 24-bit color (R140). -/
def packedColor (a : Byte) (c : BitVec 24) : Response :=
  { y0 := some ((a.zeroExtend 32 <<< 24) ||| c.zeroExtend 32) }

/-! ## Target 565A5 -/

/-- R110. -/
def execDecode565A5Rgb565 (s : State) : Result :=
  decodeRoutine .rgb565 s fun v => color565 (low16 v) s.req.adef

/-- R111. -/
def execDecode565A5Argb4444 (s : State) : Result :=
  decodeRoutine .argb4444 s fun v => color565 (argb4444To565 v) (x4to5 (argb4444Alpha v))

/-- R112. -/
def execDecode565A5Argb6666 (s : State) : Result :=
  decodeRoutine .argb6666 s fun v => color565 (argb6666To565 v) (n6to5 (argb6666Alpha v))

/-- R113. -/
def execDecode565A5Argb8565 (s : State) : Result :=
  decodeRoutine .argb8565 s fun v => color565 (low16 v) (n8to5 (argb8565Alpha v))

/-- R114. -/
def execDecode565A5Rgb888 (s : State) : Result :=
  decodeRoutine .rgb888 s fun v => color565 (lanesTo565 v) s.req.adef

/-- R115. -/
def execDecode565A5Argb8888 (s : State) : Result :=
  decodeRoutine .argb8888 s fun v => color565 (lanesTo565 v) (n8to5 (laneA v))

/-- R116. -/
def execDecode565A5Mono (s : State) : Result :=
  decodeMonoRoutine s 1 (color565 (Config.anyValue 16 s.draws) s.req.adef)
    (fun m => color565 (mono565 m) s.req.adef)

/-- R117. -/
def execDecode565A5Grayscale (s : State) : Result :=
  decodeRoutine .grayscale s fun v => color565 (grayTo565 (laneB v)) s.req.adef

/-! ## Target 565A8 -/

/-- R118. -/
def execDecode565A8Rgb565 (s : State) : Result :=
  decodeRoutine .rgb565 s fun v => color565 (low16 v) s.req.adef

/-- R119. -/
def execDecode565A8Argb4444 (s : State) : Result :=
  decodeRoutine .argb4444 s fun v => color565 (argb4444To565 v) (x4to8 (argb4444Alpha v))

/-- R120. -/
def execDecode565A8Argb6666 (s : State) : Result :=
  decodeRoutine .argb6666 s fun v => color565 (argb6666To565 v) (x6to8 (argb6666Alpha v))

/-- R121. -/
def execDecode565A8Argb8565 (s : State) : Result :=
  decodeRoutine .argb8565 s fun v => color565 (low16 v) (argb8565Alpha v)

/-- R122. -/
def execDecode565A8Rgb888 (s : State) : Result :=
  decodeRoutine .rgb888 s fun v => color565 (lanesTo565 v) s.req.adef

/-- R123. -/
def execDecode565A8Argb8888 (s : State) : Result :=
  decodeRoutine .argb8888 s fun v => color565 (lanesTo565 v) (laneA v)

/-- R124. -/
def execDecode565A8Mono (s : State) : Result :=
  decodeMonoRoutine s 1 (color565 (Config.anyValue 16 s.draws) s.req.adef)
    (fun m => color565 (mono565 m) s.req.adef)

/-- R125. -/
def execDecode565A8Grayscale (s : State) : Result :=
  decodeRoutine .grayscale s fun v => color565 (grayTo565 (laneB v)) s.req.adef

/-! ## Target ARGB -/

/-- R126. -/
def execDecodeArgbRgb565 (s : State) : Result :=
  decodeRoutine .rgb565 s fun v => channels (widen565 s.req.adef (low16 v))

/-- R127. -/
def execDecodeArgbArgb4444 (s : State) : Result :=
  decodeRoutine .argb4444 s fun v => channels (widen4444 v)

/-- R128. -/
def execDecodeArgbArgb6666 (s : State) : Result :=
  decodeRoutine .argb6666 s fun v => channels (widen6666 v)

/-- R129. -/
def execDecodeArgbArgb8565 (s : State) : Result :=
  decodeRoutine .argb8565 s fun v => channels (widen565 (argb8565Alpha v) (low16 v))

/-- R130. -/
def execDecodeArgbRgb888 (s : State) : Result :=
  decodeRoutine .rgb888 s fun v => channels (lanesArgb s.req.adef v)

/-- R131. -/
def execDecodeArgbArgb8888 (s : State) : Result :=
  decodeRoutine .argb8888 s fun v => channels (lanesArgb (laneA v) v)

/-- R132. -/
def execDecodeArgbMono (s : State) : Result :=
  decodeMonoRoutine s 3
    (channels
      { a := s.req.adef, r := Config.anyValue 8 s.draws, g := Config.anyValue 8 (s.draws + 1)
        b := Config.anyValue 8 (s.draws + 2) })
    (fun m => channels (grayArgb s.req.adef (mono8 m)))

/-- R133. -/
def execDecodeArgbGrayscale (s : State) : Result :=
  decodeRoutine .grayscale s fun v => channels (grayArgb s.req.adef (laneB v))

/-! ## Target PACKED32 -/

/-- R134. -/
def execDecodePacked32Rgb565 (s : State) : Result :=
  decodeRoutine .rgb565 s fun v => packed32 (widen565 s.req.adef (low16 v))

/-- R135. -/
def execDecodePacked32Argb4444 (s : State) : Result :=
  decodeRoutine .argb4444 s fun v => packed32 (widen4444 v)

/-- R136. -/
def execDecodePacked32Argb6666 (s : State) : Result :=
  decodeRoutine .argb6666 s fun v => packed32 (widen6666 v)

/-- R137. -/
def execDecodePacked32Argb8565 (s : State) : Result :=
  decodeRoutine .argb8565 s fun v => packed32 (widen565 (argb8565Alpha v) (low16 v))

/-- R138. The alpha is forced to full (R103; spec/90_conflicts.md C5). -/
def execDecodePacked32Rgb888 (s : State) : Result :=
  decodeRoutine .rgb888 s fun v => packed32 (lanesArgb 0xFF#8 v)

/-- R139. -/
def execDecodePacked32Argb8888 (s : State) : Result :=
  decodeRoutine .argb8888 s fun v => inY0 v

/-- R140. -/
def execDecodePacked32Mono (s : State) : Result :=
  decodeMonoRoutine s 1 (packedColor s.req.adef (Config.anyValue 24 s.draws))
    (fun m => packedColor s.req.adef (mono24 m))

/-- R141. -/
def execDecodePacked32Grayscale (s : State) : Result :=
  decodeRoutine .grayscale s fun v => packed32 (grayArgb s.req.adef (laneB v))

/-! ## DECODE -/

/-- A handle that is not valid (R222). -/
def nullDecoder (s : State) : Result := transact s (raiseFault .nullDecoder s)

/-- The dispatch table of target 565A5 (R82): no routine for Unknown and Indexed. -/
def runTo565A5 (fmt : PixelFormat) (s : State) : Result :=
  match fmt with
  | .rgb565 => execDecode565A5Rgb565 s
  | .argb4444 => execDecode565A5Argb4444 s
  | .argb6666 => execDecode565A5Argb6666 s
  | .argb8565 => execDecode565A5Argb8565 s
  | .rgb888 => execDecode565A5Rgb888 s
  | .argb8888 => execDecode565A5Argb8888 s
  | .mono => execDecode565A5Mono s
  | .grayscale => execDecode565A5Grayscale s
  | .unknown => nullDecoder s
  | .indexed => nullDecoder s

/-- The dispatch table of target 565A8 (R82): no routine for Unknown and Indexed. -/
def runTo565A8 (fmt : PixelFormat) (s : State) : Result :=
  match fmt with
  | .rgb565 => execDecode565A8Rgb565 s
  | .argb4444 => execDecode565A8Argb4444 s
  | .argb6666 => execDecode565A8Argb6666 s
  | .argb8565 => execDecode565A8Argb8565 s
  | .rgb888 => execDecode565A8Rgb888 s
  | .argb8888 => execDecode565A8Argb8888 s
  | .mono => execDecode565A8Mono s
  | .grayscale => execDecode565A8Grayscale s
  | .unknown => nullDecoder s
  | .indexed => nullDecoder s

/-- The dispatch table of target ARGB (R82): no routine for Unknown and Indexed. -/
def runToArgb (fmt : PixelFormat) (s : State) : Result :=
  match fmt with
  | .rgb565 => execDecodeArgbRgb565 s
  | .argb4444 => execDecodeArgbArgb4444 s
  | .argb6666 => execDecodeArgbArgb6666 s
  | .argb8565 => execDecodeArgbArgb8565 s
  | .rgb888 => execDecodeArgbRgb888 s
  | .argb8888 => execDecodeArgbArgb8888 s
  | .mono => execDecodeArgbMono s
  | .grayscale => execDecodeArgbGrayscale s
  | .unknown => nullDecoder s
  | .indexed => nullDecoder s

/-- The dispatch table of target PACKED32 (R82): no routine for Unknown and Indexed. -/
def runToPacked32 (fmt : PixelFormat) (s : State) : Result :=
  match fmt with
  | .rgb565 => execDecodePacked32Rgb565 s
  | .argb4444 => execDecodePacked32Argb4444 s
  | .argb6666 => execDecodePacked32Argb6666 s
  | .argb8565 => execDecodePacked32Argb8565 s
  | .rgb888 => execDecodePacked32Rgb888 s
  | .argb8888 => execDecodePacked32Argb8888 s
  | .mono => execDecodePacked32Mono s
  | .grayscale => execDecodePacked32Grayscale s
  | .unknown => nullDecoder s
  | .indexed => nullDecoder s

/-- `ROUTINE[rep][fmt]` (R83). -/
def runRoutine (rep : TargetRep) (fmt : PixelFormat) (s : State) : Result :=
  match rep with
  | .to565A5 => runTo565A5 fmt s
  | .to565A8 => runTo565A8 fmt s
  | .toArgb => runToArgb fmt s
  | .toPacked32 => runToPacked32 fmt s

/-- R83: the routine of a valid handle; NULL_DECODER for every other handle. -/
def execDecode (handle : BitVec 8) (s : State) : Result :=
  match handleTarget? handle with
  | none => nullDecoder s
  | some (rep, fmt) => runRoutine rep fmt s

end Sys2Proof.Machine
end

