-- ==== Sys2Proof/Machine/Registry.lean ====
section
/-! DEFINITION. The format registry and LOOKUP (spec/40_registry_dispatch.md R80-R82). -/

namespace Sys2Proof.Machine

/-- R80. -/
def execHasAlpha (fmt : PixelFormat) (s : State) : Result :=
  transact s (.next (s.respond (inY0 (BitVec.ofBool fmt.hasAlpha))))

/-- R81. -/
def execByteWidth (fmt : PixelFormat) (s : State) : Result :=
  transact s (.next (s.respond (inY0 (BitVec.ofNat 3 fmt.byteWidth))))

/-- R82: a NULL result is no exception. -/
def execLookup (fmt : PixelFormat) (rep : TargetRep) (s : State) : Result :=
  transact s (.next (s.respond (inY0 (dispatch rep fmt))))

end Sys2Proof.Machine
end

