-- ==== Sys2Proof/Machine/Dispatch.lean ====
section
/-! DEFINITION. What each instruction does: one arm per constructor of `Instr`. -/

namespace Sys2Proof.Machine

/-- The meaning of an instruction whose request is in the state. -/
def exec (i : Instr) (s : State) : Host.Outcome State Fault Refusal :=
  match i with
  | .hasAlpha fmt => Sys2Proof.Machine.execHasAlpha fmt s
  | .byteWidth fmt => Sys2Proof.Machine.execByteWidth fmt s
  | .lookup fmt rep => Sys2Proof.Machine.execLookup fmt rep s
  | .decode handle => Sys2Proof.Machine.execDecode handle s
  | .cvtRgbTo565 => Sys2Proof.Machine.execCvtRgbTo565 s
  | .cvt565ToRgb => Sys2Proof.Machine.execCvt565ToRgb s
  | .cvt888To565 => Sys2Proof.Machine.execCvt888To565 s
  | .cvt565To888 => Sys2Proof.Machine.execCvt565To888 s
  | .cvt8888To565A8 => Sys2Proof.Machine.execCvt8888To565A8 s
  | .cvt8888To565A5 => Sys2Proof.Machine.execCvt8888To565A5 s
  | .cvt8565To8888 => Sys2Proof.Machine.execCvt8565To8888 s
  | .cvtGrayTo565 => Sys2Proof.Machine.execCvtGrayTo565 s
  | .cvtGrayTo888 => Sys2Proof.Machine.execCvtGrayTo888 s
  | .cvt565ToGray => Sys2Proof.Machine.execCvt565ToGray s
  | .cvt888ToGray => Sys2Proof.Machine.execCvt888ToGray s
  | .cvtMonoTo565 => Sys2Proof.Machine.execCvtMonoTo565 s
  | .cvtMonoTo888 => Sys2Proof.Machine.execCvtMonoTo888 s
  | .cvt565ToMono => Sys2Proof.Machine.execCvt565ToMono s
  | .cvt888ToMono => Sys2Proof.Machine.execCvt888ToMono s
  | .blend565 => Sys2Proof.Machine.execBlend565 s
  | .blend565A8 => Sys2Proof.Machine.execBlend565A8 s
  | .prep565 => Sys2Proof.Machine.execPrep565 s
  | .blend565p => Sys2Proof.Machine.execBlend565p s
  | .blend565pA8 => Sys2Proof.Machine.execBlend565pA8 s
  | .blend888 => Sys2Proof.Machine.execBlend888 s
  | .prep888 => Sys2Proof.Machine.execPrep888 s
  | .blend888p => Sys2Proof.Machine.execBlend888p s
  | .blendargb => Sys2Proof.Machine.execBlendargb s
  | .decode565A5Rgb565 => Sys2Proof.Machine.execDecode565A5Rgb565 s
  | .decode565A5Argb4444 => Sys2Proof.Machine.execDecode565A5Argb4444 s
  | .decode565A5Argb6666 => Sys2Proof.Machine.execDecode565A5Argb6666 s
  | .decode565A5Argb8565 => Sys2Proof.Machine.execDecode565A5Argb8565 s
  | .decode565A5Rgb888 => Sys2Proof.Machine.execDecode565A5Rgb888 s
  | .decode565A5Argb8888 => Sys2Proof.Machine.execDecode565A5Argb8888 s
  | .decode565A5Mono => Sys2Proof.Machine.execDecode565A5Mono s
  | .decode565A5Grayscale => Sys2Proof.Machine.execDecode565A5Grayscale s
  | .decode565A8Rgb565 => Sys2Proof.Machine.execDecode565A8Rgb565 s
  | .decode565A8Argb4444 => Sys2Proof.Machine.execDecode565A8Argb4444 s
  | .decode565A8Argb6666 => Sys2Proof.Machine.execDecode565A8Argb6666 s
  | .decode565A8Argb8565 => Sys2Proof.Machine.execDecode565A8Argb8565 s
  | .decode565A8Rgb888 => Sys2Proof.Machine.execDecode565A8Rgb888 s
  | .decode565A8Argb8888 => Sys2Proof.Machine.execDecode565A8Argb8888 s
  | .decode565A8Mono => Sys2Proof.Machine.execDecode565A8Mono s
  | .decode565A8Grayscale => Sys2Proof.Machine.execDecode565A8Grayscale s
  | .decodeArgbRgb565 => Sys2Proof.Machine.execDecodeArgbRgb565 s
  | .decodeArgbArgb4444 => Sys2Proof.Machine.execDecodeArgbArgb4444 s
  | .decodeArgbArgb6666 => Sys2Proof.Machine.execDecodeArgbArgb6666 s
  | .decodeArgbArgb8565 => Sys2Proof.Machine.execDecodeArgbArgb8565 s
  | .decodeArgbRgb888 => Sys2Proof.Machine.execDecodeArgbRgb888 s
  | .decodeArgbArgb8888 => Sys2Proof.Machine.execDecodeArgbArgb8888 s
  | .decodeArgbMono => Sys2Proof.Machine.execDecodeArgbMono s
  | .decodeArgbGrayscale => Sys2Proof.Machine.execDecodeArgbGrayscale s
  | .decodePacked32Rgb565 => Sys2Proof.Machine.execDecodePacked32Rgb565 s
  | .decodePacked32Argb4444 => Sys2Proof.Machine.execDecodePacked32Argb4444 s
  | .decodePacked32Argb6666 => Sys2Proof.Machine.execDecodePacked32Argb6666 s
  | .decodePacked32Argb8565 => Sys2Proof.Machine.execDecodePacked32Argb8565 s
  | .decodePacked32Rgb888 => Sys2Proof.Machine.execDecodePacked32Rgb888 s
  | .decodePacked32Argb8888 => Sys2Proof.Machine.execDecodePacked32Argb8888 s
  | .decodePacked32Mono => Sys2Proof.Machine.execDecodePacked32Mono s
  | .decodePacked32Grayscale => Sys2Proof.Machine.execDecodePacked32Grayscale s

end Sys2Proof.Machine
end

