-- ==== Sys2Proof/Machine/Step.lean ====
section
/-! DEFINITION. One step of the machine, by the agent whose turn it is, and where the host's probe places a command. -/

namespace Sys2Proof.Machine

/-- PFC performs the request it is presented with (spec/30_encoding.md R70, R73): the command its word decodes to, or
ILLEGAL_COMMAND. -/
def answer (s : State) : Result :=
  match decodeCmd s.req.cmd with
  | .command i => exec i s
  | .illegal _ => illegalCommand s

/-- A step between transactions: the host or the platform takes the next action of the program; with nothing left
PFC is idle (spec/60_exceptions.md R238; log 11). -/
def stepBetween (s : State) : Result :=
  match s.program with
  | [] => .next s
  | .request r racing :: rest => .next (s.present .requested r racing rest)
  | .write a b :: rest => .next ({ s with program := rest }.platformWrite a b)
  | .reset :: rest => .next ({ s with program := rest }.platformReset)
  | .abandoned r :: rest => .next (s.present .resetting r [] rest)

/-- A step after PFC's answer: a platform agent completes the next racing write, and when none is left the host receives
the response. -/
def stepResponded (s : State) : Result :=
  match s.racing with
  | w :: ws => .next (s.completeWrite w ws)
  | [] => .next s.receive

/-- One step, of the agent whose turn it is (spec/10_state.md R20). -/
def step (s : State) : Host.Outcome State Fault Refusal :=
  match s.phase with
  | .between => stepBetween s
  | .requested => performed (answer s)
  | .resetting => .next s.abandon
  | .responded => stepResponded s

/-- The state in which the host has issued a request with command word `w` and every other request field 0 (R71), with no
write racing it: the host's load and issue of one request, so that the next step is PFC's and performs it (log 10). -/
def State.withFetchWord (s : State) (nbits w : Nat) : State :=
  s.present .requested { cmd := BitVec.ofNat 32 (w % 2 ^ nbits) } [] s.program

end Sys2Proof.Machine
end

