-- ==== Sys2Proof/Machine/Assembler.lean ====
section
/-! DEFINITION. The spec's assembler syntax (spec/30_encoding.md R71, R72): what a line of text stands for. It is not
hardware; the tests write requests in it. -/

namespace Sys2Proof.Machine

/-- The field names of R71. -/
inductive FieldName
  | a
  | b
  | c
  | alpha
  | adef
  | bitix
  | addr
  deriving DecidableEq, Repr

/-- A request with one field given by the text. -/
def Request.setField (r : Request) (f : FieldName) (value : Nat) : Request :=
  match f with
  | .a => { r with a := BitVec.ofNat 32 value }
  | .b => { r with b := BitVec.ofNat 32 value }
  | .c => { r with c := BitVec.ofNat 32 value }
  | .alpha => { r with alpha := BitVec.ofNat 8 value }
  | .adef => { r with adef := BitVec.ofNat 8 value }
  | .bitix => { r with bitix := BitVec.ofNat 8 value }
  | .addr => { r with addr := value }

/-- The request a command and its fields stand for; a field the text omits is 0 (R71). -/
def assemble (i : Instr) (fields : List (FieldName × Nat)) : Request :=
  fields.foldl (fun r f => r.setField f.1 f.2) { cmd := encode i }

/-- The command of the alias spelling `DECODE.<REP-NAME>.<FORMAT-NAME>` (R72). -/
def aliasCommand (rep : TargetRep) (fmt : PixelFormat) : Decoded := selFormH (handleOf rep fmt)

/-! ## Names -/

/-- FORMAT-NAME of R71. -/
def formatNames : List (String × PixelFormat) :=
  [("Unknown", .unknown),
   ("RGB565", .rgb565),
   ("ARGB4444", .argb4444),
   ("ARGB6666", .argb6666),
   ("ARGB8565", .argb8565),
   ("RGB888", .rgb888),
   ("ARGB8888", .argb8888),
   ("Indexed", .indexed),
   ("Mono", .mono),
   ("Grayscale", .grayscale)]

/-- REP-NAME of R71. -/
def repNames : List (String × TargetRep) :=
  [("565A5", .to565A5), ("565A8", .to565A8), ("ARGB", .toArgb), ("PACKED32", .toPacked32)]

/-- The names of the fields (R71). -/
def fieldNames : List (String × FieldName) :=
  [("A", .a), ("B", .b), ("C", .c), ("ALPHA", .alpha), ("ADEF", .adef), ("BITIX", .bitix), ("ADDR", .addr)]

/-- The mnemonics of the Z-form rows of R65. -/
def zFormNames : List (String × Instr) :=
  [("CVT.RGB.565", .cvtRgbTo565),
   ("CVT.565.RGB", .cvt565ToRgb),
   ("CVT.888.565", .cvt888To565),
   ("CVT.565.888", .cvt565To888),
   ("CVT.8888.565A8", .cvt8888To565A8),
   ("CVT.8888.565A5", .cvt8888To565A5),
   ("CVT.8565.8888", .cvt8565To8888),
   ("CVT.GRAY.565", .cvtGrayTo565),
   ("CVT.GRAY.888", .cvtGrayTo888),
   ("CVT.565.GRAY", .cvt565ToGray),
   ("CVT.888.GRAY", .cvt888ToGray),
   ("CVT.MONO.565", .cvtMonoTo565),
   ("CVT.MONO.888", .cvtMonoTo888),
   ("CVT.565.MONO", .cvt565ToMono),
   ("CVT.888.MONO", .cvt888ToMono),
   ("BLEND565", .blend565),
   ("BLEND565.A8", .blend565A8),
   ("PREP565", .prep565),
   ("BLEND565P", .blend565p),
   ("BLEND565P.A8", .blend565pA8),
   ("BLEND888", .blend888),
   ("PREP888", .prep888),
   ("BLEND888P", .blend888p),
   ("BLENDARGB", .blendargb)]

/-- The 32 alias spellings of R72 and their commands. -/
def aliasNames : List (String × Instr) :=
  repNames.flatMap fun rep => formatNames.filterMap fun fmt =>
    match aliasCommand rep.2 fmt.2 with
    | .command (.decode _) => none
    | .command i => some ("DECODE." ++ rep.1 ++ "." ++ fmt.1, i)
    | .illegal _ => none

/-! ## Reading a line -/

/-- The words of a line: what stands between spaces and commas (log 22). -/
def lineWords : List Char → List (List Char)
  | [] => [[]]
  | c :: cs =>
    if c = ' ' ∨ c = ',' then [] :: lineWords cs
    else match lineWords cs with
      | [] => [[c]]
      | w :: ws => (c :: w) :: ws

/-- The value of a digit. -/
def digitValue? (c : Char) : Option Nat :=
  if '0' ≤ c ∧ c ≤ '9' then some (c.toNat - '0'.toNat)
  else if 'a' ≤ c ∧ c ≤ 'f' then some (c.toNat - 'a'.toNat + 10)
  else if 'A' ≤ c ∧ c ≤ 'F' then some (c.toNat - 'A'.toNat + 10)
  else none

/-- The digits `cs` in a base, after the value `acc`. -/
def readDigits? (base : Nat) : Nat → List Char → Option Nat
  | acc, [] => some acc
  | acc, c :: cs =>
    match digitValue? c with
    | some d => if d < base then readDigits? base (acc * base + d) cs else none
    | none => none

/-- `value` of R71: decimal, or hexadecimal after 0x. -/
def readValue? : List Char → Option Nat
  | [] => none
  | ['0', 'x'] => none
  | '0' :: 'x' :: cs => readDigits? 16 0 cs
  | cs => readDigits? 10 0 cs

/-- Whether a value fits its field (R24); ADDR is taken modulo 2^ADDR_WIDTH where it is used (log 22). -/
def FieldName.fits (f : FieldName) (value : Nat) : Bool :=
  match f with
  | .a | .b | .c => decide (value < 2 ^ 32)
  | .alpha | .adef | .bitix => decide (value < 2 ^ 8)
  | .addr => true

/-- `field "=" value` of R71. -/
def readField? (w : List Char) : Option (FieldName × Nat) :=
  match fieldNames.lookup (String.ofList (w.takeWhile (· ≠ '='))), readValue? ((w.dropWhile (· ≠ '=')).drop 1) with
  | some f, some v => if f.fits v then some (f, v) else none
  | _, _ => none

/-- Every word a field, or none. -/
def readFields? : List (List Char) → Option (List (FieldName × Nat))
  | [] => some []
  | w :: ws =>
    match readField? w, readFields? ws with
    | some f, some fs => some (f :: fs)
    | _, _ => none

/-- The command a mnemonic and its selector stand for, and the words that follow them (R71, R72). -/
def readCommand? : List (List Char) → Option (Instr × List (List Char))
  | [] => none
  | name :: ws =>
    match String.ofList name, ws with
    | "HASALPHA", f :: ws => (formatNames.lookup (String.ofList f)).map fun fmt => (.hasAlpha fmt, ws)
    | "BYTEWIDTH", f :: ws => (formatNames.lookup (String.ofList f)).map fun fmt => (.byteWidth fmt, ws)
    | "LOOKUP", f :: r :: ws =>
      match formatNames.lookup (String.ofList f), repNames.lookup (String.ofList r) with
      | some fmt, some rep => some (.lookup fmt rep, ws)
      | _, _ => none
    | "DECODE", h :: ws =>
      match readValue? h with
      | some v =>
        if v < 2 ^ 8 then
          match selFormH (BitVec.ofNat 8 v) with
          | .command i => some (i, ws)
          | .illegal _ => none
        else none
      | none => none
    | n, ws =>
      match (zFormNames ++ aliasNames).lookup n with
      | some i => some (i, ws)
      | none => none

/-- The request a line of R71 stands for. -/
def assembleLine? (line : String) : Option Request :=
  match readCommand? ((lineWords line.toList).filter fun w => !w.isEmpty) with
  | some (i, ws) => (readFields? ws).map (assemble i)
  | none => none

end Sys2Proof.Machine
end

