-- ==== Sys2Proof/Safety.lean ====
section
/-! DEFINITION. What the claims call a good state: PFC ready for a request, STATUS a legal value, pixel memory in
canonical form, the host's records in order, the agents in turn. -/

namespace Sys2Proof.Machine

/-- PFC is not halted (spec/60_exceptions.md R227). -/
abbrev State.Ready (s : State) : Prop := s.faulted = false

/-- STATUS holds a value of spec/10_state.md R27: bits 7:4 are 0, CAUSE is 1, 2 or 3 with FAULT = 1 and 0 with FAULT = 0. -/
abbrev State.StatusLegal (s : State) : Prop :=
  s.status = 0x00#8 ∨ s.status = 0x03#8 ∨ s.status = 0x05#8 ∨ s.status = 0x07#8

/-- Every response the host has drives STATUS (spec/10_state.md R26), and there is at most one for each request issued. -/
abbrev State.HostRecords (s : State) : Prop :=
  (∀ r ∈ s.responses, r.status.isSome = true) ∧ s.responses.length ≤ s.index

/-- Between transactions no write is in flight, and a response the host is about to receive drives STATUS (R20, R26). -/
abbrev State.TurnsLegal (s : State) : Prop :=
  (s.phase = .between → s.racing = []) ∧ (s.phase = .responded → s.rsp.status.isSome = true)

/-- The invariant of every step. -/
structure State.Inv (s : State) : Prop where
  memory : s.mem.wf = true
  status : s.StatusLegal
  records : s.HostRecords
  turns : s.TurnsLegal

end Sys2Proof.Machine
end

