-- ==== Sys2Proof/Certificates/Slice0/Obligations.lean ====
section
/-! DEFINITION. The statements for the provers, from the numbered rules of spec/, and the words they are written in. -/

namespace Sys2Proof.Claims
open Sys2Proof.Machine

/-- The instruction completes: the transaction ends in a next state whose response drives STATUS and the fields of `r`,
`d` draws were taken, and every other piece of the state is as before. -/
def Answers (i : Instr) (s : State) (r : Response) (d : Nat := 0) : Prop :=
  exec i s = .next { s with rsp := { r with status := some s.statusRead }, draws := s.draws + d }

/-- Fault entry (R226): STATUS becomes `code`, the response drives STATUS alone, and everything else is as before. -/
def EntersFault (o : Result) (s : State) (code : BitVec 8) : Prop :=
  o = .next { s with status := code, rsp := { status := some code } }

/-- The HALTED answer (R227): the response drives STATUS alone, and everything else is as before. -/
def AnswersHalted (o : Result) (s : State) : Prop := o = .next { s with rsp := { status := some s.statusRead } }

/-- Two outcomes a host cannot tell apart: the same stop, or the same response, STATUS and draws. Where a response has a
drawn field (R225) or a raced byte in it (R48), that two such responses are equal is the model's choice (logs 2 and 12). -/
def SameAnswer : Result → Result → Prop
  | .next s, .next t => s.rsp = t.rsp ∧ s.status = t.status ∧ s.draws = t.draws
  | .fault f, .fault g => f = g
  | .refused f, .refused g => f = g
  | _, _ => False

/-- `n` steps lead from one state to another. -/
def Reaches : Nat → State → State → Prop
  | 0, s, t => s = t
  | n + 1, s, t => ∃ u, step s = .next u ∧ Reaches n u t

/-- The state after the platform writes of a list, in order. -/
def writesDone : List Host.Cell → State → State
  | [], s => s
  | w :: ws, s => writesDone ws (s.platformWrite w.1 w.2)

/-- A reset takes the next step: between transactions, or during one (R250). -/
def resetIsNext (s : State) : Prop :=
  (s.phase = .between ∧ ∃ rest, s.program = .reset :: rest) ∨ s.phase = .resetting

/-- Zero-extension to a 32-bit response field (R25). -/
def up {w : Nat} (v : BitVec w) : Word := v.zeroExtend 32

/-- OPC of a command word as a number (R61). -/
def opcOf (w : Word) : Nat := w.toNat % 2 ^ 8

/-- SEL of a command word as a number (R61). -/
def selOf (w : Word) : Nat := w.toNat / 2 ^ 8 % 2 ^ 8

/-- RSV of a command word as a number (R61). -/
def rsvOf (w : Word) : Nat := w.toNat / 2 ^ 16

/-- The opcodes R65 marks reserved, as R68 (b) lists them. -/
def reservedOpc (o : Nat) : Prop :=
  o = 0 ∨ (0x05 ≤ o ∧ o ≤ 0x0F) ∨ o = 0x1F ∨ (0x25 ≤ o ∧ o ≤ 0x27) ∨ 0x2C ≤ o

/-- The illegal command words of R68, (a) to (e). -/
def illegalWord (w : Word) : Prop :=
  rsvOf w ≠ 0 ∨ reservedOpc (opcOf w) ∨
  ((opcOf w = 0x01 ∨ opcOf w = 0x02) ∧ (selOf w / 16 ≠ 0 ∨ 9 < selOf w % 16)) ∨
  (opcOf w = 0x03 ∧ (selOf w / 64 ≠ 0 ∨ 9 < selOf w % 16)) ∨
  (0x10 ≤ opcOf w ∧ selOf w ≠ 0)

/-- The 32 valid handles of R66 as numbers: `0x40 | (REP << 4) | FMT`. -/
def validHandleNumber (h : Nat) : Prop :=
  ∃ rep ∈ [0, 1, 2, 3], ∃ fmt ∈ [1, 2, 3, 4, 5, 6, 8, 9], h = 0x40 + 16 * rep + fmt

/-- The read width of a decodable FMT code (R44). -/
def widthOf (fmt : Nat) : Nat :=
  match fmt with
  | 1 => 2
  | 2 => 2
  | 3 => 3
  | 4 => 3
  | 5 => 3
  | 6 => 4
  | _ => 1

/-- REP, FMT and row of each decode routine (R83, R110-R141). -/
def routineRows : List (Nat × Nat × Instr) :=
  [(0, 1, .decode565A5Rgb565), (0, 2, .decode565A5Argb4444), (0, 3, .decode565A5Argb6666), (0, 4, .decode565A5Argb8565),
   (0, 5, .decode565A5Rgb888), (0, 6, .decode565A5Argb8888), (0, 8, .decode565A5Mono), (0, 9, .decode565A5Grayscale)] ++
  [(1, 1, .decode565A8Rgb565), (1, 2, .decode565A8Argb4444), (1, 3, .decode565A8Argb6666), (1, 4, .decode565A8Argb8565),
   (1, 5, .decode565A8Rgb888), (1, 6, .decode565A8Argb8888), (1, 8, .decode565A8Mono), (1, 9, .decode565A8Grayscale)] ++
  [(2, 1, .decodeArgbRgb565), (2, 2, .decodeArgbArgb4444), (2, 3, .decodeArgbArgb6666), (2, 4, .decodeArgbArgb8565),
   (2, 5, .decodeArgbRgb888), (2, 6, .decodeArgbArgb8888), (2, 8, .decodeArgbMono), (2, 9, .decodeArgbGrayscale)] ++
  [(3, 1, .decodePacked32Rgb565), (3, 2, .decodePacked32Argb4444), (3, 3, .decodePacked32Argb6666), (3, 4, .decodePacked32Argb8565),
   (3, 5, .decodePacked32Rgb888), (3, 6, .decodePacked32Argb8888), (3, 8, .decodePacked32Mono), (3, 9, .decodePacked32Grayscale)]

/-- Every one of the `n` bytes the request's ADDR names is admitted (R47, R252). -/
def bytesAdmitted (s : State) (n : Nat) : Prop :=
  ∀ i < n, s.admits ((s.req.addr + i) % 2 ^ s.params.addrWidth) = true

/-- The preconditions of R224's table, by command word. -/
def preconditionHolds (s : State) : Prop :=
  (opcOf s.req.cmd = 0x20 → s.req.alpha.toNat ≤ 31) ∧
  (opcOf s.req.cmd = 0x23 → s.req.alpha.toNat ≤ 31 ∧ s.req.a &&& ~~~s.params.m565 = 0#32) ∧
  (opcOf s.req.cmd = 0x24 → s.req.a &&& ~~~s.params.m565 = 0#32) ∧
  (opcOf s.req.cmd = 0x2A → s.req.a &&& ~~~0x00FF00FF#32 = 0#32 ∧ s.req.c &&& ~~~0x0000FF00#32 = 0#32) ∧
  (opcOf s.req.cmd = 0x04 → selOf s.req.cmd % 16 = 8 → s.req.bitix.toNat ≤ 7)

/-- The words of a registry opcode `opc` whose bits from `top` up must be 0: those with a bit set there or FMT above 9 raise
ILLEGAL_COMMAND, the others decode as `reading` says. -/
def registryWord (opc top : Nat) (reading : Word → Prop) : Prop :=
  ∀ s : State, s.Ready → opcOf s.req.cmd = opc →
    (s.req.cmd.toNat / 2 ^ top ≠ 0 ∨ 9 < s.req.cmd.toNat / 2 ^ 8 % 16 → EntersFault (answer s) s 0x03#8) ∧
    (s.req.cmd.toNat / 2 ^ top = 0 → s.req.cmd.toNat / 2 ^ 8 % 16 ≤ 9 → reading s.req.cmd)

/-- The lane of the 565 blend (R187): floor division of integers rounds toward minus infinity. -/
def lane565 (a f b : Int) : Int := b + (a * (f - b)) / 32

/-- The lane of the 888 blend (R206). -/
def lane888 (a f b : Int) : Int := f + (a * (b - f)) / 256

/-- The spread word of a 565 color in the lane mask `m`, as R180 writes it. -/
def spreadOf (m : Word) (c : BitVec 16) : Word := (up c ||| (up c <<< 16)) &&& m

/-- The core 565 blend in the lane mask `m` of a spread foreground over a background, as R181 writes it. -/
def blend565Of (m f : Word) (bg : BitVec 16) (a5 : Byte) : BitVec 16 :=
  let bw := spreadOf m bg
  let r := ((((f - bw) * up a5) >>> 5) + bw) &&& m
  ((r ||| (r >>> 16)) &&& 0xFFFF#32).extractLsb 15 0

/-- What a command's rule names of the request fields (R24, R35): how many low bits of A, B and C, and whether it names
ALPHA, ADEF, BITIX and ADDR, which are read whole. -/
structure OperandUse where
  a : Nat := 0
  b : Nat := 0
  c : Nat := 0
  alpha : Bool := false
  adef : Bool := false
  bitix : Bool := false
  addr : Bool := false

/-- What a DECODE names, by its handle (R66, R83, R110-R141): a handle that is not valid names no field, a routine of a
format without alpha names ADEF but for Rgb888 to PACKED32 (R138), and Mono names BITIX. -/
def handleUse (h : Nat) : OperandUse :=
  if h / 64 = 1 then
    match h % 16 with
    | 1 => { addr := true, adef := true }
    | 2 => { addr := true }
    | 3 => { addr := true }
    | 4 => { addr := true }
    | 5 => { addr := true, adef := decide (h / 16 % 4 ≠ 3) }
    | 6 => { addr := true }
    | 8 => { addr := true, adef := true, bitix := true }
    | 9 => { addr := true, adef := true }
    | _ => {}
  else {}

/-- What each command's rule names (R80-R83, R110-R141, R151-R165, R182-R186, R202-R205). -/
def operandUse : Instr → OperandUse
  | .hasAlpha _ | .byteWidth _ | .lookup _ _ => {}
  | .decode h => handleUse h.toNat
  | .cvt565ToRgb | .cvt565To888 | .cvt565ToGray | .cvt565ToMono => { a := 16 }
  | .cvtRgbTo565 | .cvt888To565 | .cvt8565To8888 | .cvt888ToGray | .cvt888ToMono => { a := 24 }
  | .cvt8888To565A8 | .cvt8888To565A5 => { a := 32 }
  | .cvtGrayTo565 | .cvtGrayTo888 => { a := 8 }
  | .cvtMonoTo565 | .cvtMonoTo888 => { a := 1 }
  | .blend565 | .blend565A8 => { a := 16, b := 16, alpha := true }
  | .prep565 => { a := 16 }
  | .blend565p | .blend565pA8 => { a := 32, b := 16, alpha := true }
  | .blend888 | .blendargb => { a := 24, b := 24, alpha := true }
  | .prep888 => { a := 24 }
  | .blend888p => { a := 32, b := 24, c := 32, alpha := true }
  | .decode565A5Rgb565 | .decode565A5Rgb888 | .decode565A5Grayscale
  | .decode565A8Rgb565 | .decode565A8Rgb888 | .decode565A8Grayscale
  | .decodeArgbRgb565 | .decodeArgbRgb888 | .decodeArgbGrayscale
  | .decodePacked32Rgb565 | .decodePacked32Grayscale => { addr := true, adef := true }
  | .decode565A5Argb4444 | .decode565A5Argb6666 | .decode565A5Argb8565 | .decode565A5Argb8888
  | .decode565A8Argb4444 | .decode565A8Argb6666 | .decode565A8Argb8565 | .decode565A8Argb8888
  | .decodeArgbArgb4444 | .decodeArgbArgb6666 | .decodeArgbArgb8565 | .decodeArgbArgb8888
  | .decodePacked32Argb4444 | .decodePacked32Argb6666 | .decodePacked32Argb8565 | .decodePacked32Rgb888
  | .decodePacked32Argb8888 => { addr := true }
  | .decode565A5Mono | .decode565A8Mono | .decodeArgbMono | .decodePacked32Mono =>
    { addr := true, adef := true, bitix := true }

/-- Two requests that agree on what a command names, whatever their other bits and fields. -/
def sameOperands (u : OperandUse) (r q : Request) : Prop :=
  r.a.toNat % 2 ^ u.a = q.a.toNat % 2 ^ u.a ∧ r.b.toNat % 2 ^ u.b = q.b.toNat % 2 ^ u.b ∧
  r.c.toNat % 2 ^ u.c = q.c.toNat % 2 ^ u.c ∧ (u.alpha = true → r.alpha = q.alpha) ∧
  (u.adef = true → r.adef = q.adef) ∧ (u.bitix = true → r.bitix = q.bitix) ∧ (u.addr = true → r.addr = q.addr)

end Sys2Proof.Claims

open Sys2Proof Sys2Proof.Machine Sys2Proof.Claims

/-! ## Encoding -/

/-- R61, R62, R65, R66, R73. Decoding the encoding of a well-formed instruction gives it back. -/
def Obligations.DecodeOfEncodeIsTheInstruction : Prop :=
  ∀ i : Instr, i.wellFormed = true → decodeCmd (encode i) = .command i

/-- R61, R65, R68, R73. A command word has one reading, and no bit of it is dropped. -/
def Obligations.CommandWordIsItsEncoding : Prop :=
  ∀ (w : Word) (i : Instr), decodeCmd w = .command i → encode i = w ∧ i.wellFormed = true

/-- R68, R221. The illegal words are those R68 lists; each raises ILLEGAL_COMMAND and does nothing else. -/
def Obligations.IllegalWordsRaiseIllegalCommand : Prop :=
  ∀ w : Word,
    ((∃ why, decodeCmd w = .illegal why) ↔ illegalWord w) ∧
    ∀ s : State, s.Ready → s.req.cmd = w →
      (illegalWord w → EntersFault (answer s) s 0x03#8) ∧
      (rsvOf w = 0 → opcOf w = 0x04 → ¬ validHandleNumber (selOf w) →
        ¬ illegalWord w ∧ EntersFault (answer s) s 0x05#8)

/-- R65, R66, R68, R71, R81, R83, R154, R182, R205. A few command words that the spec writes out decode to their commands, and three illegal ones are refused by name. -/
def Obligations.SampleCommandWordsDecode : Prop :=
  decodeCmd 0x00000201#32 = .command (.hasAlpha .argb4444) ∧
    decodeCmd 0x00002103#32 = .command (.lookup .rgb565 .toArgb) ∧
    decodeCmd 0x00006104#32 = .command .decodeArgbRgb565 ∧
    decodeCmd 0x00000020#32 = .command .blend565 ∧
    decodeCmd 0x00004104#32 = .command .decode565A5Rgb565 ∧
    decodeCmd 0x00000302#32 = .command (.byteWidth .argb6666) ∧
    decodeCmd 0x00000013#32 = .command .cvt565To888 ∧
    decodeCmd 0x0000002B#32 = .command .blendargb ∧
    decodeCmd 0x00004004#32 = .command (.decode 0x40#8) ∧
    decodeCmd 0x00000000#32 = .illegal .reservedOpcode ∧
    decodeCmd 0x00014104#32 = .illegal .reservedBits ∧
    decodeCmd 0x00000A02#32 = .illegal .selector

/-! ## The step, the host and the platform -/

/-- R20, R70, R73, R258. PFC's step performs the decoded command of the request, and what the step adds around it.
That whose step comes next is a field of the state is the model's choice (log 10). -/
def Obligations.StepPerformsTheDecodedRequest : Prop :=
  ∀ (s : State) (i : Instr), s.phase = .requested → decodeCmd s.req.cmd = .command i →
    step s = match exec i s with
      | .next t => .next { t with phase := .responded }
      | .fault f => .fault f
      | .refused f => .refused f

/-- R68, R221, R226, R29. PFC's step on an illegal command word enters ILLEGAL_COMMAND, and the host then receives that response.
The turn and the receipt as a step are the model's choice (log 10). -/
def Obligations.StepOnIllegalWordEntersTheFault : Prop :=
  ∀ s : State, s.phase = .requested → s.Ready → illegalWord s.req.cmd →
    step s = .next { s with status := 0x03#8, rsp := { status := some 0x03#8 }, phase := .responded } ∧
    (s.racing = [] → Reaches 2 s { s with
      status := 0x03#8, rsp := { status := some 0x03#8 }, phase := .between, index := s.index + 1
      responses := s.responses ++ [{ status := some 0x03#8 }] })

/-- R29, R259, R26, R20. Each performed request advances the index by exactly 1 and gives one response that drives STATUS.
The order of these steps and that the racing writes are done after the answer, in order, are the model's choice (logs 10, 12 and 15); R48 says only what the racing bytes read as. -/
def Obligations.PerformedRequestAdvancesTheIndexByOne : Prop :=
  ∀ (s : State) (r : Request) (ws : List Host.Cell) (rest : List Action),
    s.phase = .between → s.program = .request r ws :: rest →
    let p : State := { s with phase := .requested, req := r, rsp := {}, racing := ws, program := rest }
    step s = .next p ∧
    ∀ u, answer p = .next u → ∃ t, Reaches (ws.length + 2) p t ∧
      t.phase = .between ∧ t.index = s.index + 1 ∧ t.program = rest ∧ t.req = r ∧ t.racing = [] ∧
      t.responses = s.responses ++ [u.rsp] ∧ t.rsp = u.rsp ∧ t.status = u.status ∧
      u.rsp.status = some t.statusRead ∧ t.mem = (writesDone ws s).mem

/-- R20, R41, R52, R238. A platform write between transactions changes that one byte; an idle step changes nothing.
That a write wraps its address and does nothing outside admitted memory (log 15) and the idle step (log 11) are the model's. -/
def Obligations.PlatformWriteIsReadBack : Prop :=
  ∀ (s : State) (a : Nat) (b : Byte) (rest : List Action), s.mem.wf = true → s.phase = .between →
    (s.program = .write a b :: rest → s.admits (a % 2 ^ s.params.addrWidth) = true →
      ∃ t, step s = .next t ∧ t.mem.readByte (a % 2 ^ s.params.addrWidth) = b ∧
        (∀ a', a' ≠ a % 2 ^ s.params.addrWidth → t.mem.readByte a' = s.mem.readByte a') ∧
        t.mem.wf = true ∧ t = { s with mem := t.mem, program := rest }) ∧
    (s.program = .write a b :: rest → s.admits (a % 2 ^ s.params.addrWidth) = false →
      step s = .next { s with program := rest }) ∧
    (s.program = [] → step s = .next s)

/-- R250, R36, R28. Reset clears STATUS and undrives the response from every state; an abandoned transaction gives none.
What reset does to the host's index and program is the model's choice (log 13). -/
def Obligations.ResetClearsStatusAndUndrivesTheResponse : Prop :=
  ∀ (s : State) (r : Request) (rest : List Action),
    (s.phase = .between → s.program = .reset :: rest →
      step s = .next { s with status := 0x00#8, rsp := {}, racing := [], program := rest }) ∧
    (s.phase = .between → s.program = .abandoned r :: rest →
      step s = .next { s with phase := .resetting, req := r, rsp := {}, racing := [], program := rest }) ∧
    (s.phase = .resetting →
      step s = .next { s with phase := .between, status := 0x00#8, rsp := {}, racing := [], index := s.index + 1 })

/-- R36. The state after reset. -/
def Obligations.ResetStateIsAsTheSpecSays : Prop :=
  State.reset.faulted = false ∧ State.reset.cause = 0#3 ∧ State.reset.statusRead.extractLsb' 4 4 = 0#4 ∧
    State.reset.rsp.y0 = none ∧ State.reset.rsp.y1 = none ∧ State.reset.rsp.ya = none ∧
    State.reset.rsp.yr = none ∧ State.reset.rsp.yg = none ∧ State.reset.rsp.yb = none ∧
    (∀ (rep : TargetRep) (code : BitVec 4), (dispatchRom rep code).toNat =
      if code.toNat ∈ [1, 2, 3, 4, 5, 6, 8, 9] then 0x40 + 16 * rep.code.toNat + code.toNat else 0) ∧
    (∀ (rep : TargetRep) (fmt : PixelFormat), (dispatch rep fmt).toNat =
      if fmt = .unknown ∨ fmt = .indexed then 0 else 0x40 + 16 * rep.code.toNat + fmt.code.toNat) ∧
    (∀ fmt : PixelFormat, fmt.hasAlpha = decide (fmt.code.toNat ∈ [2, 3, 4, 6])) ∧
    [PixelFormat.unknown, .rgb565, .argb4444, .argb6666, .argb8565, .rgb888, .argb8888, .indexed, .mono,
      .grayscale].map PixelFormat.byteWidth = [0, 2, 2, 3, 3, 3, 4, 1, 0, 1]

/-! ## Invariants and whole-machine rules -/

/-- R27, R26, R29, R226, R250. Every step keeps STATUS legal, memory canonical and the host's records in order. -/
def Obligations.StepKeepsTheInvariant : Prop :=
  ∀ s t : State, s.Inv → step s = .next t → t.Inv

/-- R36, R250. The state after reset meets the invariant. -/
def Obligations.ResetMeetsTheInvariant : Prop :=
  State.reset.Inv

/-- R227. After a fault every request is answered HALTED, until reset. -/
def Obligations.HaltedUntilReset : Prop :=
  (∀ (i : Instr) (s : State), s.faulted = true → AnswersHalted (exec i s) s) ∧
    (∀ s : State, s.faulted = true → AnswersHalted (answer s) s) ∧
    (∀ s t : State, s.faulted = true → step s = .next t →
      ¬ resetIsNext s → t.status = s.status) ∧
    (∀ s : State, resetIsNext s → ∃ t, step s = .next t ∧ t.faulted = false)

/-- R28, R226, R250, R33. Only fault entry writes STATUS, and only reset clears it. -/
def Obligations.StatusChangesOnlyByFaultEntryOrReset : Prop :=
  ∀ s t : State, step s = .next t →
    t.status = s.status ∨
    (s.faulted = false ∧ s.phase = .requested ∧ (t.status = 0x03#8 ∨ t.status = 0x05#8 ∨ t.status = 0x07#8)) ∨
    (resetIsNext s ∧ t.status = 0x00#8)

/-- R41, R23, R28, R32, R226. Frame of every instruction: only STATUS, the response and the draw counter change; no byte of memory does.
For a byte that a write races, the clause on the read port is the model's choice (log 12, DESIGN CHOICE): R48 leaves each
such read free. The draw counter is the model's own (log 2). -/
def Obligations.ExecFrame : Prop :=
  ∀ (i : Instr) (s t : State), exec i s = .next t →
    (∀ a, t.mem.readByte a = s.mem.readByte a) ∧ (∀ a, t.readByte a = s.readByte a) ∧ t.mem = s.mem ∧
    t.req = s.req ∧ t.phase = s.phase ∧ t.params = s.params ∧ t.admitted = s.admitted ∧ t.racing = s.racing ∧
    t.program = s.program ∧ t.index = s.index ∧ t.responses = s.responses ∧ s.draws ≤ t.draws

/-- R33, R222, R224, R226. No instruction writes STATUS but by NULL_DECODER or, in debug mode, PRECONDITION. -/
def Obligations.ExecWritesStatusOnlyByAFault : Prop :=
  ∀ (i : Instr) (s t : State), exec i s = .next t →
    t.status = s.status ∨
    (s.faulted = false ∧
      ((∃ h, i = .decode h ∧ ¬ validHandleNumber h.toNat ∧ t.status = 0x05#8) ∨
       (s.params.debugAssert = true ∧ t.status = 0x07#8)))

/-- R26, R27, R226. Every transaction drives STATUS; in the halted state and on a fault it drives nothing else. -/
def Obligations.EveryAnswerDrivesStatus : Prop :=
  ∀ s t : State, answer s = .next t →
    t.rsp.status = some t.statusRead ∧ t.statusRead.extractLsb' 4 4 = 0#4 ∧
    (t.faulted = true → t.rsp = { status := some t.statusRead })

/-- R40, R34, R55. No instruction but DECODE reads pixel memory.
With a failed precondition and DEBUG_ASSERT = 0 (BLEND565, BLEND565P, BLEND565P.A8, BLEND888P), that the drawn fields of
the two answers are equal is the model's choice (log 2, DESIGN CHOICE): R225 leaves each draw free. -/
def Obligations.OnlyDecodeReachesMemory : Prop :=
  ∀ (i : Instr) (s : State) (m : Memory) (g : List Region) (ws : List Host.Cell),
    (∀ h, i ≠ .decode h) → (∀ row ∈ routineRows, i ≠ row.2.2) →
    SameAnswer (exec i s) (exec i { s with mem := m, admitted := g, racing := ws }) ∧ ∃ t, exec i s = .next t

/-- R23, R28, R32, R86. An answer depends only on the request, STATUS, the parameters, what memory reads as and the next draw (the model's choice, log 2).
The clause on draws, and with it the equality of drawn fields, is the model's choice (log 2, DESIGN CHOICE): R225 leaves
each draw free, so it says nothing of two violating requests on the hardware. -/
def Obligations.AnswerDependsOnlyOnRequestStatusAndBytes : Prop :=
  ∀ s t : State, s.req = t.req → s.status = t.status → s.params = t.params → s.draws = t.draws →
    (∀ a, s.readByte a = t.readByte a) → SameAnswer (answer s) (answer t)

/-- R228. The answer to every request follows the priority order of R228. -/
def Obligations.AnswersFollowThePriority : Prop :=
  ∀ s : State,
    (s.faulted = true → AnswersHalted (answer s) s) ∧
    (s.faulted = false →
      (illegalWord s.req.cmd → EntersFault (answer s) s 0x03#8) ∧
      (¬ illegalWord s.req.cmd →
        (opcOf s.req.cmd = 0x04 ∧ ¬ validHandleNumber (selOf s.req.cmd) → EntersFault (answer s) s 0x05#8) ∧
        (¬ (opcOf s.req.cmd = 0x04 ∧ ¬ validHandleNumber (selOf s.req.cmd)) →
          (s.params.debugAssert = true ∧ ¬ preconditionHolds s → EntersFault (answer s) s 0x07#8) ∧
          (¬ (s.params.debugAssert = true ∧ ¬ preconditionHolds s) →
            (opcOf s.req.cmd = 0x04 ∧ ¬ bytesAdmitted s (widthOf (selOf s.req.cmd % 16)) →
              answer s = .fault .stuckUnadmittedRead) ∧
            (¬ (opcOf s.req.cmd = 0x04 ∧ ¬ bytesAdmitted s (widthOf (selOf s.req.cmd % 16))) →
              ∃ t, answer s = .next t ∧ t.status = s.status ∧
                (preconditionHolds s → t.draws = s.draws) ∧ (¬ preconditionHolds s → s.draws < t.draws))))))

/-! ## Pixel memory -/

/-- R42, R46. The bytes of a pixel form its integer in the byte order of the instance, at addresses that wrap. -/
def Obligations.PixelBytesFormTheirInteger : Prop :=
  ∀ (s : State) (addr n : Nat) (f : Nat → Byte), 1 ≤ n → n ≤ 4 →
    (∀ i < n, s.readByte ((addr + i) % 2 ^ s.params.addrWidth) = some (f i)) →
    ∃ v, s.memRead addr n = some v ∧
      (s.params.byteOrder = .le → v.toNat = ((List.range n).map fun i => (f i).toNat * 2 ^ (8 * i)).sum) ∧
      (s.params.byteOrder = .be → v.toNat = ((List.range n).map fun i => (f i).toNat * 2 ^ (8 * (n - 1 - i))).sum) ∧
      (∀ t, step s = .next t → t.params = s.params)

/-- R47, R223, R44, R83. A DECODE whose read reaches an address the platform does not admit is stuck, and no other DECODE is. -/
def Obligations.UnadmittedReadIsStuck : Prop :=
  ∀ (s : State) (rep fmt : Nat) (row : Instr), (rep, fmt, row) ∈ routineRows → s.Ready →
    (fmt = 8 → s.req.bitix.toNat ≤ 7) →
    (exec row s = .fault .stuckUnadmittedRead ↔ ¬ bytesAdmitted s (widthOf fmt)) ∧
    (exec (.decode (BitVec.ofNat 8 (0x40 + 16 * rep + fmt))) s = .fault .stuckUnadmittedRead ↔
      ¬ bytesAdmitted s (widthOf fmt))

/-- R48, R52, R255. A byte reads as stored when no write races it, and as its old or a new value when one does.
Which of them is free for each byte and write (log 12). -/
def Obligations.RacingByteReadsOldOrNew : Prop :=
  ∀ (s : State) (a : Nat),
    (s.admits a = false → s.readByte a = none) ∧
    (s.admits a = true →
      ((∀ c ∈ s.racing, c.1 % 2 ^ s.params.addrWidth ≠ a) → s.readByte a = some (s.mem.readByte a)) ∧
      ∃ b, s.readByte a = some b ∧
        (b = s.mem.readByte a ∨ ∃ c ∈ s.racing, c.1 % 2 ^ s.params.addrWidth = a ∧ b = c.2))

/-! ## Registry and dispatch -/

/-- R80. HASALPHA answers 1 for ARGB4444, ARGB6666, ARGB8565 and ARGB8888 and 0 otherwise. -/
def Obligations.HasAlphaOfEachFormat : Prop :=
  (∀ (fmt : PixelFormat) (s : State), s.Ready →
      Answers (.hasAlpha fmt) s
        { y0 := some (if fmt ∈ [.argb4444, .argb6666, .argb8565, .argb8888] then 1#32 else 0#32) }) ∧
    (∀ fmt : PixelFormat, (encode (.hasAlpha fmt)).toNat = 1 + 256 * fmt.code.toNat ∧ fmt.code.toNat ≤ 9) ∧
    registryWord 0x01 12 fun w => ∃ fmt : PixelFormat, decodeCmd w = .command (.hasAlpha fmt) ∧ fmt.code.toNat = w.toNat / 2 ^ 8 % 16

/-- R81. BYTEWIDTH answers the number of bytes of each format, 0 for Mono and Unknown. -/
def Obligations.ByteWidthOfEachFormat : Prop :=
  (∀ s : State, s.Ready →
      Answers (.byteWidth .unknown) s { y0 := some 0#32 } ∧ Answers (.byteWidth .rgb565) s { y0 := some 2#32 } ∧
      Answers (.byteWidth .argb4444) s { y0 := some 2#32 } ∧ Answers (.byteWidth .argb6666) s { y0 := some 3#32 } ∧
      Answers (.byteWidth .argb8565) s { y0 := some 3#32 } ∧ Answers (.byteWidth .rgb888) s { y0 := some 3#32 } ∧
      Answers (.byteWidth .argb8888) s { y0 := some 4#32 } ∧ Answers (.byteWidth .indexed) s { y0 := some 1#32 } ∧
      Answers (.byteWidth .mono) s { y0 := some 0#32 } ∧ Answers (.byteWidth .grayscale) s { y0 := some 1#32 }) ∧
    (∀ fmt : PixelFormat, (encode (.byteWidth fmt)).toNat = 2 + 256 * fmt.code.toNat) ∧
    PixelFormat.readWidth .mono = 1 ∧
    registryWord 0x02 12 fun w => ∃ fmt : PixelFormat, decodeCmd w = .command (.byteWidth fmt) ∧ fmt.code.toNat = w.toNat / 2 ^ 8 % 16

/-- R82, R84. LOOKUP answers the handle of each decodable format, and NULL without a fault for Unknown and Indexed. -/
def Obligations.LookupGivesTheHandleOrNull : Prop :=
  (∀ (fmt : PixelFormat) (rep : TargetRep) (s : State), s.Ready →
      Answers (.lookup fmt rep) s
        { y0 := some (if fmt = .unknown ∨ fmt = .indexed then 0#32
            else BitVec.ofNat 32 (0x40 + 16 * rep.code.toNat + fmt.code.toNat)) }) ∧
    (∀ (fmt : PixelFormat) (rep : TargetRep),
      (encode (.lookup fmt rep)).toNat = 3 + 4096 * rep.code.toNat + 256 * fmt.code.toNat ∧
      (¬ (fmt = .unknown ∨ fmt = .indexed) →
        ∃ row, (rep.code.toNat, fmt.code.toNat, row) ∈ routineRows ∧
          decodeCmd (0x04#32 ||| (BitVec.ofNat 32 (0x40 + 16 * rep.code.toNat + fmt.code.toNat) <<< 8)) = .command row)) ∧
    registryWord 0x03 14 fun w => ∃ (fmt : PixelFormat) (rep : TargetRep), decodeCmd w = .command (.lookup fmt rep) ∧
      fmt.code.toNat = w.toNat / 2 ^ 8 % 16 ∧ rep.code.toNat = w.toNat / 2 ^ 12 % 4

/-- R222, R83, R66, R226. DECODE of a handle that is not valid raises NULL_DECODER and reads no memory. -/
def Obligations.InvalidHandleRaisesNullDecoder : Prop :=
  ∀ (h : BitVec 8) (s : State), ¬ validHandleNumber h.toNat → s.Ready → EntersFault (exec (.decode h) s) s 0x05#8

/-- R83, R72, R85, R44, R100. DECODE of a valid handle is that handle's routine, and every byte pattern completes.
The two are one command word (R72); that the one transaction has one drawn color (R225) and one choice for each raced
byte (R48) is the model's choice (logs 2 and 12, DESIGN CHOICE). -/
def Obligations.DecodeRunsTheRoutineOfItsHandle : Prop :=
  ∀ (s : State) (rep fmt : Nat) (row : Instr), (rep, fmt, row) ∈ routineRows →
    exec (.decode (BitVec.ofNat 8 (0x40 + 16 * rep + fmt))) s = exec row s ∧
    (s.Ready → bytesAdmitted s (widthOf fmt) → (fmt = 8 → s.req.bitix.toNat ≤ 7) →
      ∃ r : Response, Answers (.decode (BitVec.ofNat 8 (0x40 + 16 * rep + fmt))) s r ∧ Answers row s r)

/-- R85, R86, R49. The response of a DECODE is a function of the handle, the bytes read, ADEF and BITIX. -/
def Obligations.DecodeIsAFunctionOfItsBytes : Prop :=
  ∀ (s t : State) (rep fmt : Nat) (row : Instr), (rep, fmt, row) ∈ routineRows → s.Ready → t.Ready →
    s.params = t.params → s.status = t.status → s.req.adef = t.req.adef → s.req.bitix = t.req.bitix →
    (fmt = 8 → s.req.bitix.toNat ≤ 7) →
    (∀ i < widthOf fmt, s.readByte ((s.req.addr + i) % 2 ^ s.params.addrWidth) =
      t.readByte ((t.req.addr + i) % 2 ^ t.params.addrWidth)) →
    (∀ s', exec row s = .next s' → ∃ t', exec row t = .next t' ∧ t'.rsp = s'.rsp)

/-! ## Decode routines -/

/-- R110, R111, R112, R113, R114, R115, R117. Results of the decode routines to 565A5 (RGB565 to Grayscale, Mono apart). -/
def Obligations.Decode565A5Results : Prop :=
  (∀ (s : State) (v : Word), s.Ready →
      (s.memRead s.req.addr 2 = some v →
        Answers .decode565A5Rgb565 s { y0 := some (up (v.extractLsb 15 0)), ya := some s.req.adef } ∧
        Answers .decode565A5Argb4444 s
          { y0 := some (up (pack565 (x4to5 (v.extractLsb 11 8)) (x4to6 (v.extractLsb 7 4)) (x4to5 (v.extractLsb 3 0))))
            ya := some ((x4to5 (v.extractLsb 15 12)).zeroExtend 8) }) ∧
      (s.memRead s.req.addr 3 = some v →
        Answers .decode565A5Argb6666 s
          { y0 := some (up (pack565 (n6to5 (v.extractLsb 17 12)) (v.extractLsb 11 6) (n6to5 (v.extractLsb 5 0))))
            ya := some ((n6to5 (v.extractLsb 23 18)).zeroExtend 8) } ∧
        Answers .decode565A5Argb8565 s
          { y0 := some (up (v.extractLsb 15 0)), ya := some ((n8to5 (v.extractLsb 23 16)).zeroExtend 8) } ∧
        Answers .decode565A5Rgb888 s
          { y0 := some (up (pack565 (n8to5 (v.extractLsb 23 16)) (n8to6 (v.extractLsb 15 8)) (n8to5 (v.extractLsb 7 0))))
            ya := some s.req.adef }) ∧
      (s.memRead s.req.addr 4 = some v →
        Answers .decode565A5Argb8888 s
          { y0 := some (up (pack565 (n8to5 (v.extractLsb 23 16)) (n8to6 (v.extractLsb 15 8)) (n8to5 (v.extractLsb 7 0))))
            ya := some ((n8to5 (v.extractLsb 31 24)).zeroExtend 8) }) ∧
      (s.memRead s.req.addr 1 = some v →
        Answers .decode565A5Grayscale s
          { y0 := some (up (pack565 (n8to5 (v.extractLsb 7 0)) (n8to6 (v.extractLsb 7 0)) (n8to5 (v.extractLsb 7 0))))
            ya := some s.req.adef })) ∧
    [encode .decode565A5Rgb565, encode .decode565A5Argb4444, encode .decode565A5Argb6666,
      encode .decode565A5Argb8565, encode .decode565A5Rgb888, encode .decode565A5Argb8888,
      encode .decode565A5Grayscale].map BitVec.toNat =
      [0x00004104, 0x00004204, 0x00004304, 0x00004404, 0x00004504, 0x00004604, 0x00004904]

/-- R118, R119, R120, R121, R122, R123, R125. Results of the decode routines to 565A8 (Mono apart). -/
def Obligations.Decode565A8Results : Prop :=
  (∀ (s : State) (v : Word), s.Ready →
      (s.memRead s.req.addr 2 = some v →
        Answers .decode565A8Rgb565 s { y0 := some (up (v.extractLsb 15 0)), ya := some s.req.adef } ∧
        Answers .decode565A8Argb4444 s
          { y0 := some (up (pack565 (x4to5 (v.extractLsb 11 8)) (x4to6 (v.extractLsb 7 4)) (x4to5 (v.extractLsb 3 0))))
            ya := some (x4to8 (v.extractLsb 15 12)) }) ∧
      (s.memRead s.req.addr 3 = some v →
        Answers .decode565A8Argb6666 s
          { y0 := some (up (pack565 (n6to5 (v.extractLsb 17 12)) (v.extractLsb 11 6) (n6to5 (v.extractLsb 5 0))))
            ya := some (x6to8 (v.extractLsb 23 18)) } ∧
        Answers .decode565A8Argb8565 s
          { y0 := some (up (v.extractLsb 15 0)), ya := some (v.extractLsb 23 16) } ∧
        Answers .decode565A8Rgb888 s
          { y0 := some (up (pack565 (n8to5 (v.extractLsb 23 16)) (n8to6 (v.extractLsb 15 8)) (n8to5 (v.extractLsb 7 0))))
            ya := some s.req.adef }) ∧
      (s.memRead s.req.addr 4 = some v →
        Answers .decode565A8Argb8888 s
          { y0 := some (up (pack565 (n8to5 (v.extractLsb 23 16)) (n8to6 (v.extractLsb 15 8)) (n8to5 (v.extractLsb 7 0))))
            ya := some (v.extractLsb 31 24) }) ∧
      (s.memRead s.req.addr 1 = some v →
        Answers .decode565A8Grayscale s
          { y0 := some (up (pack565 (n8to5 (v.extractLsb 7 0)) (n8to6 (v.extractLsb 7 0)) (n8to5 (v.extractLsb 7 0))))
            ya := some s.req.adef })) ∧
    [encode .decode565A8Rgb565, encode .decode565A8Argb4444, encode .decode565A8Argb6666,
      encode .decode565A8Argb8565, encode .decode565A8Rgb888, encode .decode565A8Argb8888,
      encode .decode565A8Grayscale].map BitVec.toNat =
      [0x00005104, 0x00005204, 0x00005304, 0x00005404, 0x00005504, 0x00005604, 0x00005904]

/-- R126, R127, R128, R129, R130, R131, R133. Results of the decode routines to ARGB (Mono apart). -/
def Obligations.DecodeArgbResults : Prop :=
  (∀ (s : State) (v : Word), s.Ready →
      (s.memRead s.req.addr 2 = some v →
        Answers .decodeArgbRgb565 s
          { ya := some s.req.adef, yr := some (x5to8 (v.extractLsb 15 11)), yg := some (x6to8 (v.extractLsb 10 5))
            yb := some (x5to8 (v.extractLsb 4 0)) } ∧
        Answers .decodeArgbArgb4444 s
          { ya := some (x4to8 (v.extractLsb 15 12)), yr := some (x4to8 (v.extractLsb 11 8))
            yg := some (x4to8 (v.extractLsb 7 4)), yb := some (x4to8 (v.extractLsb 3 0)) }) ∧
      (s.memRead s.req.addr 3 = some v →
        Answers .decodeArgbArgb6666 s
          { ya := some (x6to8 (v.extractLsb 23 18)), yr := some (x6to8 (v.extractLsb 17 12))
            yg := some (x6to8 (v.extractLsb 11 6)), yb := some (x6to8 (v.extractLsb 5 0)) } ∧
        Answers .decodeArgbArgb8565 s
          { ya := some (v.extractLsb 23 16), yr := some (x5to8 (v.extractLsb 15 11)), yg := some (x6to8 (v.extractLsb 10 5))
            yb := some (x5to8 (v.extractLsb 4 0)) } ∧
        Answers .decodeArgbRgb888 s
          { ya := some s.req.adef, yr := some (v.extractLsb 23 16), yg := some (v.extractLsb 15 8)
            yb := some (v.extractLsb 7 0) }) ∧
      (s.memRead s.req.addr 4 = some v →
        Answers .decodeArgbArgb8888 s
          { ya := some (v.extractLsb 31 24), yr := some (v.extractLsb 23 16), yg := some (v.extractLsb 15 8)
            yb := some (v.extractLsb 7 0) }) ∧
      (s.memRead s.req.addr 1 = some v →
        Answers .decodeArgbGrayscale s
          { ya := some s.req.adef, yr := some (v.extractLsb 7 0), yg := some (v.extractLsb 7 0)
            yb := some (v.extractLsb 7 0) })) ∧
    [encode .decodeArgbRgb565, encode .decodeArgbArgb4444, encode .decodeArgbArgb6666,
      encode .decodeArgbArgb8565, encode .decodeArgbRgb888, encode .decodeArgbArgb8888,
      encode .decodeArgbGrayscale].map BitVec.toNat =
      [0x00006104, 0x00006204, 0x00006304, 0x00006404, 0x00006504, 0x00006604, 0x00006904]

/-- R134, R135, R136, R137, R138, R139, R141. Results of the decode routines to PACKED32 (Mono apart); RGB888 forces full alpha. -/
def Obligations.DecodePacked32Results : Prop :=
  (∀ (s : State) (v : Word), s.Ready →
      (s.memRead s.req.addr 2 = some v →
        Answers .decodePacked32Rgb565 s
          { y0 := some (pack8888 s.req.adef (x5to8 (v.extractLsb 15 11)) (x6to8 (v.extractLsb 10 5))
              (x5to8 (v.extractLsb 4 0))) } ∧
        Answers .decodePacked32Argb4444 s
          { y0 := some (pack8888 (x4to8 (v.extractLsb 15 12)) (x4to8 (v.extractLsb 11 8)) (x4to8 (v.extractLsb 7 4))
              (x4to8 (v.extractLsb 3 0))) }) ∧
      (s.memRead s.req.addr 3 = some v →
        Answers .decodePacked32Argb6666 s
          { y0 := some (pack8888 (x6to8 (v.extractLsb 23 18)) (x6to8 (v.extractLsb 17 12)) (x6to8 (v.extractLsb 11 6))
              (x6to8 (v.extractLsb 5 0))) } ∧
        Answers .decodePacked32Argb8565 s
          { y0 := some (pack8888 (v.extractLsb 23 16) (x5to8 (v.extractLsb 15 11)) (x6to8 (v.extractLsb 10 5))
              (x5to8 (v.extractLsb 4 0))) } ∧
        Answers .decodePacked32Rgb888 s { y0 := some (0xFF000000#32 ||| up (v.extractLsb 23 0)) }) ∧
      (s.memRead s.req.addr 4 = some v → Answers .decodePacked32Argb8888 s { y0 := some v }) ∧
      (s.memRead s.req.addr 1 = some v →
        Answers .decodePacked32Grayscale s
          { y0 := some (pack8888 s.req.adef (v.extractLsb 7 0) (v.extractLsb 7 0) (v.extractLsb 7 0)) })) ∧
    [encode .decodePacked32Rgb565, encode .decodePacked32Argb4444, encode .decodePacked32Argb6666,
      encode .decodePacked32Argb8565, encode .decodePacked32Rgb888, encode .decodePacked32Argb8888,
      encode .decodePacked32Grayscale].map BitVec.toNat =
      [0x00007104, 0x00007204, 0x00007304, 0x00007404, 0x00007504, 0x00007604, 0x00007904]

/-- R102, R116, R124, R132, R140. The Mono routines: bit index 0 is the most significant bit; above 7 the color is drawn, and YA is ADEF. -/
def Obligations.DecodeMonoResults : Prop :=
  (∀ (s : State) (v : Word), s.Ready → s.memRead s.req.addr 1 = some v →
      (s.req.bitix.toNat ≤ 7 →
        let m := v.getLsbD (7 - s.req.bitix.toNat)
        Answers .decode565A5Mono s { y0 := some (if m then 0x0000FFFF#32 else 0#32), ya := some s.req.adef } ∧
        Answers .decode565A8Mono s { y0 := some (if m then 0x0000FFFF#32 else 0#32), ya := some s.req.adef } ∧
        Answers .decodeArgbMono s
          { ya := some s.req.adef, yr := some (if m then 0xFF#8 else 0#8), yg := some (if m then 0xFF#8 else 0#8)
            yb := some (if m then 0xFF#8 else 0#8) } ∧
        Answers .decodePacked32Mono s
          { y0 := some ((up s.req.adef <<< 24) ||| (if m then 0x00FFFFFF#32 else 0#32)) }) ∧
      (7 < s.req.bitix.toNat → s.params.debugAssert = false →
        Answers .decode565A5Mono s { y0 := some (up (Config.anyValue 16 s.draws)), ya := some s.req.adef } 1 ∧
        Answers .decode565A8Mono s { y0 := some (up (Config.anyValue 16 s.draws)), ya := some s.req.adef } 1 ∧
        Answers .decodeArgbMono s
          { ya := some s.req.adef, yr := some (Config.anyValue 8 s.draws), yg := some (Config.anyValue 8 (s.draws + 1))
            yb := some (Config.anyValue 8 (s.draws + 2)) } 3 ∧
        Answers .decodePacked32Mono s { y0 := some ((up s.req.adef <<< 24) ||| up (Config.anyValue 24 s.draws)) } 1) ∧
      (7 < s.req.bitix.toNat → s.params.debugAssert = true →
        ∀ i ∈ [.decode565A5Mono, .decode565A8Mono, .decodeArgbMono, .decodePacked32Mono], EntersFault (exec i s) s 0x07#8)) ∧
    [encode .decode565A5Mono, encode .decode565A8Mono, encode .decodeArgbMono, encode .decodePacked32Mono].map BitVec.toNat =
      [0x00004804, 0x00005804, 0x00006804, 0x00007804]

/-- R101, R102, R103. A decode of a format without alpha to 565A5, 565A8 or ARGB returns ADEF in YA, unreduced. -/
def Obligations.AlphaDefaultIsReturnedUnchanged : Prop :=
  ∀ (i : Instr) (s t : State),
    i ∈ [.decode565A5Rgb565, .decode565A5Rgb888, .decode565A5Mono, .decode565A5Grayscale, .decode565A8Rgb565,
      .decode565A8Rgb888, .decode565A8Mono, .decode565A8Grayscale, .decodeArgbRgb565, .decodeArgbRgb888,
      .decodeArgbMono, .decodeArgbGrayscale] →
    s.Ready → exec i s = .next t → t.faulted = false → t.rsp.ya = some s.req.adef

/-- R224, R226, R228. With DEBUG_ASSERT = 1 each failed precondition of R224 raises PRECONDITION before any memory read. -/
def Obligations.FailedPreconditionInDebugModeRaisesPrecondition : Prop :=
  ∀ s : State, s.Ready → s.params.debugAssert = true →
    (31 < s.req.alpha.toNat → EntersFault (exec .blend565 s) s 0x07#8) ∧
    (31 < s.req.alpha.toNat ∨ s.req.a &&& ~~~s.params.m565 ≠ 0#32 → EntersFault (exec .blend565p s) s 0x07#8) ∧
    (s.req.a &&& ~~~s.params.m565 ≠ 0#32 → EntersFault (exec .blend565pA8 s) s 0x07#8) ∧
    (s.req.a &&& ~~~0x00FF00FF#32 ≠ 0#32 ∨ s.req.c &&& ~~~0x0000FF00#32 ≠ 0#32 →
      EntersFault (exec .blend888p s) s 0x07#8) ∧
    (7 < s.req.bitix.toNat →
      ∀ i ∈ [.decode565A5Mono, .decode565A8Mono, .decodeArgbMono, .decodePacked32Mono, .decode 0x48#8, .decode 0x58#8,
        .decode 0x68#8, .decode 0x78#8], EntersFault (exec i s) s 0x07#8)

/-! ## Conversions -/

/-- R151, R152, R153, R154. Results of CVT.RGB.565, CVT.565.RGB, CVT.888.565 and CVT.565.888. -/
def Obligations.Rgb565ConversionResults : Prop :=
  (∀ s : State, s.Ready →
      Answers .cvtRgbTo565 s
        { y0 := some (up (pack565 (n8to5 (s.req.a.extractLsb 23 16)) (n8to6 (s.req.a.extractLsb 15 8))
            (n8to5 (s.req.a.extractLsb 7 0)))) } ∧
      Answers .cvt565ToRgb s
        { yr := some ((s.req.a.extractLsb 15 11).zeroExtend 8 <<< 3), yg := some ((s.req.a.extractLsb 10 5).zeroExtend 8 <<< 2)
          yb := some ((s.req.a.extractLsb 4 0).zeroExtend 8 <<< 3) } ∧
      Answers .cvt888To565 s
        { y0 := some (up (pack565 (n8to5 (s.req.a.extractLsb 23 16)) (n8to6 (s.req.a.extractLsb 15 8))
            (n8to5 (s.req.a.extractLsb 7 0)))) } ∧
      Answers .cvt565To888 s
        { y0 := some ((up (s.req.a.extractLsb 15 11) <<< 19) ||| (up (s.req.a.extractLsb 10 5) <<< 10) |||
            (up (s.req.a.extractLsb 4 0) <<< 3)) }) ∧
    [encode .cvtRgbTo565, encode .cvt565ToRgb, encode .cvt888To565, encode .cvt565To888].map BitVec.toNat =
      [0x00000010, 0x00000011, 0x00000012, 0x00000013]

/-- R155, R156, R157. Results of CVT.8888.565A8, CVT.8888.565A5 and CVT.8565.8888. -/
def Obligations.Argb8888ConversionResults : Prop :=
  (∀ s : State, s.Ready →
      Answers .cvt8888To565A8 s
        { y0 := some (up (pack565 (n8to5 (s.req.a.extractLsb 23 16)) (n8to6 (s.req.a.extractLsb 15 8))
            (n8to5 (s.req.a.extractLsb 7 0))))
          ya := some (s.req.a.extractLsb 31 24) } ∧
      Answers .cvt8888To565A5 s
        { y0 := some (up (pack565 (n8to5 (s.req.a.extractLsb 23 16)) (n8to6 (s.req.a.extractLsb 15 8))
            (n8to5 (s.req.a.extractLsb 7 0))))
          ya := some (s.req.a.extractLsb 31 24 >>> 3) } ∧
      Answers .cvt8565To8888 s
        { y0 := some ((up (s.req.a.extractLsb 23 16) <<< 24) |||
            ((up (s.req.a.extractLsb 15 11) <<< 19) ||| (up (s.req.a.extractLsb 10 5) <<< 10) |||
              (up (s.req.a.extractLsb 4 0) <<< 3))) }) ∧
    [encode .cvt8888To565A8, encode .cvt8888To565A5, encode .cvt8565To8888].map BitVec.toNat =
      [0x00000014, 0x00000015, 0x00000016]

/-- R158, R159, R162, R163. Results of CVT.GRAY.565, CVT.GRAY.888, CVT.MONO.565 and CVT.MONO.888. -/
def Obligations.GrayAndMonoToColorResults : Prop :=
  (∀ s : State, s.Ready →
      Answers .cvtGrayTo565 s
        { y0 := some (up (pack565 (n8to5 (s.req.a.extractLsb 7 0)) (n8to6 (s.req.a.extractLsb 7 0))
            (n8to5 (s.req.a.extractLsb 7 0)))) } ∧
      Answers .cvtGrayTo888 s
        { y0 := some (up (pack888 (s.req.a.extractLsb 7 0) (s.req.a.extractLsb 7 0) (s.req.a.extractLsb 7 0))) } ∧
      Answers .cvtMonoTo565 s { y0 := some (if s.req.a.toNat % 2 = 1 then 0x0000FFFF#32 else 0#32) } ∧
      Answers .cvtMonoTo888 s { y0 := some (if s.req.a.toNat % 2 = 1 then 0x00FFFFFF#32 else 0#32) }) ∧
    [encode .cvtGrayTo565, encode .cvtGrayTo888, encode .cvtMonoTo565, encode .cvtMonoTo888].map BitVec.toNat =
      [0x00000017, 0x00000018, 0x0000001B, 0x0000001C]

/-- R160, R161, R164, R165. CVT.565.GRAY, CVT.888.GRAY, CVT.565.MONO and CVT.888.MONO answer their OPEN parameter of the color. -/
def Obligations.OpenConversionsApplyTheirParameters : Prop :=
  (∀ s : State, s.Ready →
      Answers .cvt565ToGray s { y0 := some (up (Config.grayFrom565 (s.req.a.extractLsb 15 0))) } ∧
      Answers .cvt888ToGray s { y0 := some (up (Config.grayFrom888 (s.req.a.extractLsb 23 0))) } ∧
      Answers .cvt565ToMono s { y0 := some (up (Config.monoFrom565 (s.req.a.extractLsb 15 0))) } ∧
      Answers .cvt888ToMono s { y0 := some (up (Config.monoFrom888 (s.req.a.extractLsb 23 0))) }) ∧
    [encode .cvt565ToGray, encode .cvt888ToGray, encode .cvt565ToMono, encode .cvt888ToMono].map BitVec.toNat =
      [0x00000019, 0x0000001A, 0x0000001D, 0x0000001E]

/-- R166, R151, R154, R150. CVT.565.888 of the Y0 of CVT.RGB.565 gives the color back when its low bits are 0. -/
def Obligations.RgbTo565AndBackRoundTrip : Prop :=
  ∀ (s : State) (r g b : Byte), s.Ready → r.toNat % 8 = 0 → g.toNat % 4 = 0 → b.toNat % 8 = 0 →
    ∃ t y u, exec .cvtRgbTo565 { s with req := { s.req with a := up (pack888 r g b) } } = .next t ∧
      t.rsp.y0 = some y ∧ exec .cvt565To888 { t with req := { t.req with a := y } } = .next u ∧
      u.rsp.y0 = some (up (pack888 r g b))

/-- R12. The widening, narrowing and packing helpers as numbers. -/
def Obligations.ChannelHelpersAreAsDefined : Prop :=
  (∀ v : BitVec 5, (x5to8 v).toNat = 8 * v.toNat + v.toNat / 4) ∧
    (∀ v : BitVec 6, (x6to8 v).toNat = 4 * v.toNat + v.toNat / 16) ∧
    (∀ v : BitVec 4, (x4to8 v).toNat = 17 * v.toNat ∧ (x4to5 v).toNat = 2 * v.toNat + v.toNat / 8 ∧
      (x4to6 v).toNat = 4 * v.toNat + v.toNat / 4) ∧
    (∀ v : BitVec 8, (n8to5 v).toNat = v.toNat / 8 ∧ (n8to6 v).toNat = v.toNat / 4) ∧
    (∀ v : BitVec 6, (n6to5 v).toNat = v.toNat / 2) ∧
    (∀ c : BitVec 16, (r5 c).toNat = c.toNat / 2048 ∧ (g6 c).toNat = c.toNat / 32 % 64 ∧ (b5 c).toNat = c.toNat % 32) ∧
    (∀ (r : BitVec 5) (g : BitVec 6) (b : BitVec 5), (pack565 r g b).toNat = 2048 * r.toNat + 32 * g.toNat + b.toNat) ∧
    (∀ a r g b : Byte, (pack888 r g b).toNat = 65536 * r.toNat + 256 * g.toNat + b.toNat ∧
      (pack8888 a r g b).toNat = 16777216 * a.toNat + (pack888 r g b).toNat)

/-! ## Blends -/

/-- R182, R183. Results of BLEND565 and BLEND565.A8. -/
def Obligations.Blend565Results : Prop :=
  (∀ s : State, s.Ready →
      let m := s.params.m565
      (s.req.alpha.toNat ≤ 31 → Answers .blend565 s
        { y0 := some (up (blend565Of m (spreadOf m (s.req.a.extractLsb 15 0)) (s.req.b.extractLsb 15 0) s.req.alpha)) }) ∧
      (31 < s.req.alpha.toNat → s.params.debugAssert = false →
        Answers .blend565 s { y0 := some (up (Config.anyValue 16 s.draws)) } 1) ∧
      (31 < s.req.alpha.toNat → s.params.debugAssert = true → EntersFault (exec .blend565 s) s 0x07#8) ∧
      Answers .blend565A8 s
        { y0 := some (up (blend565Of m (spreadOf m (s.req.a.extractLsb 15 0)) (s.req.b.extractLsb 15 0)
            (s.req.alpha >>> 3))) }) ∧
    [encode .blend565, encode .blend565A8].map BitVec.toNat =
      [0x00000020, 0x00000021]

/-- R184, R180. PREP565 answers the spread word: the lanes of R180 and no bit outside the mask, a different word for each color.
The literal mask is the spec's value from general knowledge (R8, R180; log 20). -/
def Obligations.Prep565SpreadsTheLanes : Prop :=
  (∀ s : State, s.Ready →
      Answers .prep565 s { y0 := some (spreadOf s.params.m565 (s.req.a.extractLsb 15 0)) } ∧
      spreadOf s.params.m565 (s.req.a.extractLsb 15 0) &&& ~~~s.params.m565 = 0#32) ∧
    (∀ (m : Word) (c : BitVec 16), spread565 m c = spreadOf m c) ∧
    (∀ c : BitVec 16, (spread565 0x07E0F81F#32 c).toNat =
      c.toNat % 32 + 2048 * (c.toNat / 2048) + 2097152 * (c.toNat / 32 % 64)) ∧
    (∀ w : Word, w &&& ~~~0x07E0F81F#32 = 0#32 →
      ∃ c : BitVec 16, spread565 0x07E0F81F#32 c = w ∧ ∀ d : BitVec 16, spread565 0x07E0F81F#32 d = w → d = c) ∧
    [encode .prep565].map BitVec.toNat =
      [0x00000022]

/-- R185, R186, R225, R181, R180. Results of BLEND565P and BLEND565P.A8. -/
def Obligations.PreparedBlend565Results : Prop :=
  (∀ s : State, s.Ready →
      let m := s.params.m565
      (s.req.alpha.toNat ≤ 31 → s.req.a &&& ~~~m = 0#32 → Answers .blend565p s
        { y0 := some (up (blend565Of m s.req.a (s.req.b.extractLsb 15 0) s.req.alpha)) }) ∧
      (31 < s.req.alpha.toNat ∨ s.req.a &&& ~~~m ≠ 0#32 → s.params.debugAssert = false →
        Answers .blend565p s { y0 := some (up (Config.anyValue 16 s.draws)) } 1) ∧
      (31 < s.req.alpha.toNat ∨ s.req.a &&& ~~~m ≠ 0#32 → s.params.debugAssert = true →
        EntersFault (exec .blend565p s) s 0x07#8) ∧
      (s.req.a &&& ~~~m = 0#32 → Answers .blend565pA8 s
        { y0 := some (up (blend565Of m s.req.a (s.req.b.extractLsb 15 0) (s.req.alpha >>> 3))) }) ∧
      (s.req.a &&& ~~~m ≠ 0#32 → s.params.debugAssert = false →
        Answers .blend565pA8 s { y0 := some (up (Config.anyValue 16 s.draws)) } 1) ∧
      (s.req.a &&& ~~~m ≠ 0#32 → s.params.debugAssert = true → EntersFault (exec .blend565pA8 s) s 0x07#8)) ∧
    (∀ (m f : Word) (bg : BitVec 16) (a5 : Byte), blend565core m f bg a5 = blend565Of m f bg a5) ∧
    [encode .blend565p, encode .blend565pA8].map BitVec.toNat =
      [0x00000023, 0x00000024]

/-- R187, R180, R181, R189. The packed 565 blend is the lane-by-lane blend: no carry crosses a lane.
The literal mask is the spec's value from general knowledge (R8, R180; log 20). -/
def Obligations.Blend565LaneLaw : Prop :=
  ∀ (fg bg : BitVec 16) (a : Byte), a.toNat ≤ 31 →
    let out := blend565core 0x07E0F81F#32 (spread565 0x07E0F81F#32 fg) bg a
    ((r5 out).toNat : Int) = lane565 a.toNat (r5 fg).toNat (r5 bg).toNat ∧
    ((g6 out).toNat : Int) = lane565 a.toNat (g6 fg).toNat (g6 bg).toNat ∧
    ((b5 out).toNat : Int) = lane565 a.toNat (b5 fg).toNat (b5 bg).toNat ∧
    min (g6 fg).toNat (g6 bg).toNat ≤ (g6 out).toNat ∧ (g6 out).toNat ≤ max (g6 fg).toNat (g6 bg).toNat ∧
    min (r5 fg).toNat (r5 bg).toNat ≤ (r5 out).toNat ∧ (r5 out).toNat ≤ max (r5 fg).toNat (r5 bg).toNat ∧
    min (b5 fg).toNat (b5 bg).toNat ≤ (b5 out).toNat ∧ (b5 out).toNat ≤ max (b5 fg).toNat (b5 bg).toNat

/-- R188, R182, R183, R185, R186. At alpha 0 the 565 blends give the background, and at the maximum alpha not always the foreground.
The literal mask is the spec's value from general knowledge (R8, R180; log 20). -/
def Obligations.Blend565AtAlphaZeroIsTheBackground : Prop :=
  (∀ s : State, s.Ready → s.params.m565 = 0x07E0F81F#32 →
      (s.req.alpha = 0#8 → Answers .blend565 s { y0 := some (up (s.req.b.extractLsb 15 0)) }) ∧
      (s.req.alpha.toNat ≤ 7 → Answers .blend565A8 s { y0 := some (up (s.req.b.extractLsb 15 0)) }) ∧
      (s.req.alpha = 0#8 → s.req.a &&& ~~~0x07E0F81F#32 = 0#32 →
        Answers .blend565p s { y0 := some (up (s.req.b.extractLsb 15 0)) } ∧
        Answers .blend565pA8 s { y0 := some (up (s.req.b.extractLsb 15 0)) })) ∧
    blend565core 0x07E0F81F#32 (spread565 0x07E0F81F#32 0xFFFF#16) 0x0000#16 31#8 = 0xF7BE#16

/-- R185, R186, R184, R182, R183, R253. A blend of the word PREP565 answers equals the direct 565 blend, for either alpha width. -/
def Obligations.PreparedBlend565EqualsDirectBlend : Prop :=
  ∀ s : State, s.Ready →
    ∃ t p, exec .prep565 s = .next t ∧ t.rsp.y0 = some p ∧
      (s.req.alpha.toNat ≤ 31 → ∃ u v, exec .blend565p { t with req := { t.req with a := p } } = .next u ∧
        exec .blend565 s = .next v ∧ u.rsp = v.rsp) ∧
      (∃ u v, exec .blend565pA8 { t with req := { t.req with a := p } } = .next u ∧
        exec .blend565A8 s = .next v ∧ u.rsp = v.rsp)

/-- R202, R203. Results of BLEND888 and PREP888. -/
def Obligations.Blend888Results : Prop :=
  (∀ s : State, s.Ready →
      (let w1 := s.req.a &&& 0x00FF00FF#32
       let w2 := s.req.a &&& 0x0000FF00#32
       let a := up s.req.alpha
       Answers .blend888 s
        { y0 := some (((w1 + ((((s.req.b &&& 0x00FF00FF#32) - w1) * a) >>> 8)) &&& 0x00FF00FF#32) |||
            ((w2 + ((((s.req.b &&& 0x0000FF00#32) - w2) * a) >>> 8)) &&& 0x0000FF00#32)) }) ∧
      Answers .prep888 s { y0 := some (s.req.a &&& 0x00FF00FF#32), y1 := some (s.req.a &&& 0x0000FF00#32) }) ∧
    [encode .blend888, encode .prep888].map BitVec.toNat =
      [0x00000028, 0x00000029]

/-- R204, R225, R201. Results of BLEND888P. -/
def Obligations.PreparedBlend888Results : Prop :=
  (∀ s : State, s.Ready →
      (s.req.a &&& ~~~0x00FF00FF#32 = 0#32 → s.req.c &&& ~~~0x0000FF00#32 = 0#32 →
        Answers .blend888p s
          { y0 := some (((s.req.a + ((((s.req.b &&& 0x00FF00FF#32) - s.req.a) * up s.req.alpha) >>> 8)) &&& 0x00FF00FF#32) |||
              ((s.req.c + ((((s.req.b &&& 0x0000FF00#32) - s.req.c) * up s.req.alpha) >>> 8)) &&& 0x0000FF00#32)) }) ∧
      (s.req.a &&& ~~~0x00FF00FF#32 ≠ 0#32 ∨ s.req.c &&& ~~~0x0000FF00#32 ≠ 0#32 → s.params.debugAssert = false →
        Answers .blend888p s { y0 := some (up (Config.anyValue 24 s.draws)) } 1) ∧
      (s.req.a &&& ~~~0x00FF00FF#32 ≠ 0#32 ∨ s.req.c &&& ~~~0x0000FF00#32 ≠ 0#32 → s.params.debugAssert = true →
        EntersFault (exec .blend888p s) s 0x07#8)) ∧
    [encode .blend888p].map BitVec.toNat =
      [0x0000002A]

/-- R205, R208, R202. BLENDARGB answers in YR, YG and YB the channels of BLEND888's Y0 on the same operands. -/
def Obligations.BlendArgbEqualsBlend888 : Prop :=
  ∀ s : State, s.Ready →
    ∃ r g b : Byte, Answers .blendargb s { yr := some r, yg := some g, yb := some b } ∧
      Answers .blend888 s { y0 := some (up (pack888 r g b)) }

/-- R206, R200, R201. The split 888 blend is the channel-by-channel blend: no carry crosses a lane. -/
def Obligations.Blend888LaneLaw : Prop :=
  ∀ (fg bg : Word) (a : Byte),
    ((blend888core (redBlueWord fg) (greenWord fg) bg a).toNat : Int) =
      65536 * lane888 a.toNat (laneR fg).toNat (laneR bg).toNat +
      256 * lane888 a.toNat (laneG fg).toNat (laneG bg).toNat + lane888 a.toNat (laneB fg).toNat (laneB bg).toNat

/-- R207, R202, R206. At alpha 0 BLEND888 gives the foreground, at 255 each channel is within 1 of the background; the spot check. -/
def Obligations.Blend888AtTheEndsOfAlpha : Prop :=
  (∀ s : State, s.Ready → s.req.alpha = 0#8 → Answers .blend888 s { y0 := some (up (s.req.a.extractLsb 23 0)) }) ∧
    (∀ s : State, s.Ready → s.req.alpha = 255#8 → ∃ y, Answers .blend888 s { y0 := some y } ∧ y.toNat < 2 ^ 24 ∧
      ((laneR y).toNat ≤ (laneR s.req.b).toNat + 1 ∧ (laneR s.req.b).toNat ≤ (laneR y).toNat + 1) ∧
      ((laneG y).toNat ≤ (laneG s.req.b).toNat + 1 ∧ (laneG s.req.b).toNat ≤ (laneG y).toNat + 1) ∧
      ((laneB y).toNat ≤ (laneB s.req.b).toNat + 1 ∧ (laneB s.req.b).toNat ≤ (laneB y).toNat + 1)) ∧
    (∀ s : State, s.Ready → s.req.a.extractLsb 23 0 = s.req.b.extractLsb 23 0 →
      Answers .blend888 s { y0 := some (up (s.req.a.extractLsb 23 0)) }) ∧
    blend888core (redBlueWord 0x00FF0000#32) (greenWord 0x00FF0000#32) 0x000000FF#32 128#8 = 0x007F007F#32

/-- R204, R203, R202, R253. A blend of the two words PREP888 answers equals the direct 888 blend. -/
def Obligations.PreparedBlend888EqualsDirectBlend : Prop :=
  ∀ s : State, s.Ready →
    ∃ t p q u v, exec .prep888 s = .next t ∧ t.rsp.y0 = some p ∧ t.rsp.y1 = some q ∧
      exec .blend888p { t with req := { t.req with a := p, c := q } } = .next u ∧ exec .blend888 s = .next v ∧
      u.rsp = v.rsp

/-- R24, R35, R83, R138, R152, R163, R182, R185, R202, R204. Request fields and operand bits that a command's rule does not name never change its answer.
In two cases the equality is the model's choice and no rule's: of drawn fields, where a precondition fails with
DEBUG_ASSERT = 0 (R225, R85; log 2, DESIGN CHOICE), and of bytes that a write races (R48; log 12, DESIGN CHOICE). -/
def Obligations.UnnamedOperandBitsAreIgnored : Prop :=
  ∀ (i : Instr) (s : State) (q : Request), sameOperands (operandUse i) s.req q →
    SameAnswer (exec i s) (exec i { s with req := q })

/-! ## The agents -/

/-- R20, R24, R29, R41, R48, R52. Each agent has its own step: PFC answers, the host issues and receives, the platform writes.
When a racing write is done, that an agent's turn is a field of the state and that the program holds the resets are the model's choice (logs 10, 12 and 13). -/
def Obligations.EachAgentsStepChangesWhatIsItsOwn : Prop :=
  ∀ s t : State, step s = .next t →
    (s.phase = .requested →
      t = { s with status := t.status, rsp := t.rsp, draws := t.draws, phase := .responded } ∧ answer s = .next { t with phase := .requested }) ∧
    (∀ r ws rest, s.phase = .between → s.program = .request r ws :: rest →
      t = { s with phase := .requested, req := r, rsp := {}, racing := ws, program := rest }) ∧
    (∀ r rest, s.phase = .between → s.program = .abandoned r :: rest →
      t = { s with phase := .resetting, req := r, rsp := {}, racing := [], program := rest }) ∧
    (t.req ≠ s.req → s.phase = .between ∧
      ((∃ r ws rest, s.program = .request r ws :: rest) ∨ ∃ r rest, s.program = .abandoned r :: rest)) ∧
    (t.responses ≠ s.responses → s.phase = .responded ∧ s.racing = []) ∧
    (s.phase = .responded → s.racing = [] →
      t = { s with phase := .between, index := s.index + 1, responses := s.responses ++ [s.rsp] }) ∧
    (t.mem ≠ s.mem →
      (s.phase = .between ∧ ∃ a b rest, s.program = .write a b :: rest) ∨ (s.phase = .responded ∧ s.racing ≠ [])) ∧
    (∀ a b ws, s.phase = .responded → s.racing = (a, b) :: ws →
      t = { s with mem := (s.platformWrite a b).mem, racing := ws })
end

