-- ==== Sys2Proof/Laws/Decode.lean ====
section
/-! SUPPORT. The fields of a command word, as numbers and as the whole of it. -/

namespace Sys2Proof

theorem cmdOpc_toNat (w : Word) : (cmdOpc w).toNat = w.toNat % 2 ^ 8 := by
  simp [cmdOpc, BitVec.extractLsb'_toNat]

theorem cmdSel_toNat (w : Word) : (cmdSel w).toNat = w.toNat / 2 ^ 8 % 2 ^ 8 := by
  simp [cmdSel, BitVec.extractLsb'_toNat, Nat.shiftRight_eq_div_pow]

theorem cmdRsv_toNat (w : Word) : (cmdRsv w).toNat = w.toNat / 2 ^ 16 := by
  have := w.isLt
  simp only [cmdRsv, BitVec.extractLsb'_toNat, Nat.shiftRight_eq_div_pow]
  omega

/-- A command word is its three fields. -/
theorem cmd_ext {w w' : Word} (ho : cmdOpc w = cmdOpc w') (hs : cmdSel w = cmdSel w') (hr : cmdRsv w = cmdRsv w') :
    w = w' := by
  apply BitVec.eq_of_toNat_eq
  have h1 := congrArg BitVec.toNat ho
  have h2 := congrArg BitVec.toNat hs
  have h3 := congrArg BitVec.toNat hr
  rw [cmdOpc_toNat, cmdOpc_toNat] at h1
  rw [cmdSel_toNat, cmdSel_toNat] at h2
  rw [cmdRsv_toNat, cmdRsv_toNat] at h3
  omega

/-- A handle has a row exactly when it is valid. -/
theorem handleTable_lookup_isSome (h : BitVec 8) : (handleTable.lookup h).isSome = validHandle h := by
  revert h; decide

/-- The encoding of a handle's row is the DECODE word of the handle (R66). -/
theorem encode_of_handleTable (h : BitVec 8) :
    ∀ i ∈ handleTable.lookup h, cmdOpc (encode i) = 0x04#8 ∧ cmdSel (encode i) = h ∧ cmdRsv (encode i) = 0#16 := by
  revert h; decide

/-- The encoding of a Z-form row is its opcode alone. -/
theorem encode_of_zFormTable (o : BitVec 8) :
    ∀ i ∈ zFormTable.lookup o, cmdOpc (encode i) = o ∧ cmdSel (encode i) = 0#8 ∧ cmdRsv (encode i) = 0#16 := by
  revert o; decide

/-- The opcodes without a Z-form row, R65. -/
theorem zFormTable_lookup_eq_none (o : BitVec 8) :
    zFormTable.lookup o = none ↔
      (o.toNat < 0x10 ∨ o.toNat = 0x1F ∨ (0x25 ≤ o.toNat ∧ o.toNat ≤ 0x27) ∨ 0x2C ≤ o.toNat) := by
  revert o; decide

end Sys2Proof
end

