-- ==== Sys2Proof/Laws/State.lean ====
section
/-! SUPPORT. Every field after every update of the state, so that no proof unfolds an update. -/

namespace Sys2Proof.Machine

/-! ## setStatus -/

@[simp] theorem State.setStatus_status (v : BitVec 8) (s : State) :
    (s.setStatus v).status = v &&& 0x0F#8 := rfl

@[simp] theorem State.setStatus_phase (v : BitVec 8) (s : State) :
    (s.setStatus v).phase = s.phase := rfl

@[simp] theorem State.setStatus_req (v : BitVec 8) (s : State) :
    (s.setStatus v).req = s.req := rfl

@[simp] theorem State.setStatus_rsp (v : BitVec 8) (s : State) :
    (s.setStatus v).rsp = s.rsp := rfl

@[simp] theorem State.setStatus_params (v : BitVec 8) (s : State) :
    (s.setStatus v).params = s.params := rfl

@[simp] theorem State.setStatus_mem (v : BitVec 8) (s : State) :
    (s.setStatus v).mem = s.mem := rfl

@[simp] theorem State.setStatus_admitted (v : BitVec 8) (s : State) :
    (s.setStatus v).admitted = s.admitted := rfl

@[simp] theorem State.setStatus_racing (v : BitVec 8) (s : State) :
    (s.setStatus v).racing = s.racing := rfl

@[simp] theorem State.setStatus_program (v : BitVec 8) (s : State) :
    (s.setStatus v).program = s.program := rfl

@[simp] theorem State.setStatus_index (v : BitVec 8) (s : State) :
    (s.setStatus v).index = s.index := rfl

@[simp] theorem State.setStatus_responses (v : BitVec 8) (s : State) :
    (s.setStatus v).responses = s.responses := rfl

@[simp] theorem State.setStatus_draws (v : BitVec 8) (s : State) :
    (s.setStatus v).draws = s.draws := rfl

/-! ## respond -/

@[simp] theorem State.respond_status (r : Response) (s : State) :
    (s.respond r).status = s.status := rfl

@[simp] theorem State.respond_phase (r : Response) (s : State) :
    (s.respond r).phase = s.phase := rfl

@[simp] theorem State.respond_req (r : Response) (s : State) :
    (s.respond r).req = s.req := rfl

@[simp] theorem State.respond_rsp (r : Response) (s : State) :
    (s.respond r).rsp = { r with status := some s.statusRead } := rfl

@[simp] theorem State.respond_params (r : Response) (s : State) :
    (s.respond r).params = s.params := rfl

@[simp] theorem State.respond_mem (r : Response) (s : State) :
    (s.respond r).mem = s.mem := rfl

@[simp] theorem State.respond_admitted (r : Response) (s : State) :
    (s.respond r).admitted = s.admitted := rfl

@[simp] theorem State.respond_racing (r : Response) (s : State) :
    (s.respond r).racing = s.racing := rfl

@[simp] theorem State.respond_program (r : Response) (s : State) :
    (s.respond r).program = s.program := rfl

@[simp] theorem State.respond_index (r : Response) (s : State) :
    (s.respond r).index = s.index := rfl

@[simp] theorem State.respond_responses (r : Response) (s : State) :
    (s.respond r).responses = s.responses := rfl

@[simp] theorem State.respond_draws (r : Response) (s : State) :
    (s.respond r).draws = s.draws := rfl

/-! ## advanceDraws -/

@[simp] theorem State.advanceDraws_status (n : Nat) (s : State) :
    (s.advanceDraws n).status = s.status := rfl

@[simp] theorem State.advanceDraws_phase (n : Nat) (s : State) :
    (s.advanceDraws n).phase = s.phase := rfl

@[simp] theorem State.advanceDraws_req (n : Nat) (s : State) :
    (s.advanceDraws n).req = s.req := rfl

@[simp] theorem State.advanceDraws_rsp (n : Nat) (s : State) :
    (s.advanceDraws n).rsp = s.rsp := rfl

@[simp] theorem State.advanceDraws_params (n : Nat) (s : State) :
    (s.advanceDraws n).params = s.params := rfl

@[simp] theorem State.advanceDraws_mem (n : Nat) (s : State) :
    (s.advanceDraws n).mem = s.mem := rfl

@[simp] theorem State.advanceDraws_admitted (n : Nat) (s : State) :
    (s.advanceDraws n).admitted = s.admitted := rfl

@[simp] theorem State.advanceDraws_racing (n : Nat) (s : State) :
    (s.advanceDraws n).racing = s.racing := rfl

@[simp] theorem State.advanceDraws_program (n : Nat) (s : State) :
    (s.advanceDraws n).program = s.program := rfl

@[simp] theorem State.advanceDraws_index (n : Nat) (s : State) :
    (s.advanceDraws n).index = s.index := rfl

@[simp] theorem State.advanceDraws_responses (n : Nat) (s : State) :
    (s.advanceDraws n).responses = s.responses := rfl

@[simp] theorem State.advanceDraws_draws (n : Nat) (s : State) :
    (s.advanceDraws n).draws = s.draws + n := rfl

/-! ## enterFault -/

@[simp] theorem State.enterFault_status (c : Cause) (s : State) :
    (s.enterFault c).status = faultStatus c &&& 0x0F#8 := rfl

@[simp] theorem State.enterFault_phase (c : Cause) (s : State) :
    (s.enterFault c).phase = s.phase := rfl

@[simp] theorem State.enterFault_req (c : Cause) (s : State) :
    (s.enterFault c).req = s.req := rfl

@[simp] theorem State.enterFault_rsp (c : Cause) (s : State) :
    (s.enterFault c).rsp = { status := some ((s.setStatus (faultStatus c)).statusRead) } := rfl

@[simp] theorem State.enterFault_params (c : Cause) (s : State) :
    (s.enterFault c).params = s.params := rfl

@[simp] theorem State.enterFault_mem (c : Cause) (s : State) :
    (s.enterFault c).mem = s.mem := rfl

@[simp] theorem State.enterFault_admitted (c : Cause) (s : State) :
    (s.enterFault c).admitted = s.admitted := rfl

@[simp] theorem State.enterFault_racing (c : Cause) (s : State) :
    (s.enterFault c).racing = s.racing := rfl

@[simp] theorem State.enterFault_program (c : Cause) (s : State) :
    (s.enterFault c).program = s.program := rfl

@[simp] theorem State.enterFault_index (c : Cause) (s : State) :
    (s.enterFault c).index = s.index := rfl

@[simp] theorem State.enterFault_responses (c : Cause) (s : State) :
    (s.enterFault c).responses = s.responses := rfl

@[simp] theorem State.enterFault_draws (c : Cause) (s : State) :
    (s.enterFault c).draws = s.draws := rfl

/-! ## present -/

@[simp] theorem State.present_status (p : Phase) (r : Request) (ws : List Host.Cell) (rest : List Action) (s : State) :
    (s.present p r ws rest).status = s.status := rfl

@[simp] theorem State.present_phase (p : Phase) (r : Request) (ws : List Host.Cell) (rest : List Action) (s : State) :
    (s.present p r ws rest).phase = p := rfl

@[simp] theorem State.present_req (p : Phase) (r : Request) (ws : List Host.Cell) (rest : List Action) (s : State) :
    (s.present p r ws rest).req = r := rfl

@[simp] theorem State.present_rsp (p : Phase) (r : Request) (ws : List Host.Cell) (rest : List Action) (s : State) :
    (s.present p r ws rest).rsp = {} := rfl

@[simp] theorem State.present_params (p : Phase) (r : Request) (ws : List Host.Cell) (rest : List Action) (s : State) :
    (s.present p r ws rest).params = s.params := rfl

@[simp] theorem State.present_mem (p : Phase) (r : Request) (ws : List Host.Cell) (rest : List Action) (s : State) :
    (s.present p r ws rest).mem = s.mem := rfl

@[simp] theorem State.present_admitted (p : Phase) (r : Request) (ws : List Host.Cell) (rest : List Action) (s : State) :
    (s.present p r ws rest).admitted = s.admitted := rfl

@[simp] theorem State.present_racing (p : Phase) (r : Request) (ws : List Host.Cell) (rest : List Action) (s : State) :
    (s.present p r ws rest).racing = ws := rfl

@[simp] theorem State.present_program (p : Phase) (r : Request) (ws : List Host.Cell) (rest : List Action) (s : State) :
    (s.present p r ws rest).program = rest := rfl

@[simp] theorem State.present_index (p : Phase) (r : Request) (ws : List Host.Cell) (rest : List Action) (s : State) :
    (s.present p r ws rest).index = s.index := rfl

@[simp] theorem State.present_responses (p : Phase) (r : Request) (ws : List Host.Cell) (rest : List Action) (s : State) :
    (s.present p r ws rest).responses = s.responses := rfl

@[simp] theorem State.present_draws (p : Phase) (r : Request) (ws : List Host.Cell) (rest : List Action) (s : State) :
    (s.present p r ws rest).draws = s.draws := rfl

/-! ## answered -/

@[simp] theorem State.answered_status (s : State) :
    (s.answered).status = s.status := rfl

@[simp] theorem State.answered_phase (s : State) :
    (s.answered).phase = .responded := rfl

@[simp] theorem State.answered_req (s : State) :
    (s.answered).req = s.req := rfl

@[simp] theorem State.answered_rsp (s : State) :
    (s.answered).rsp = s.rsp := rfl

@[simp] theorem State.answered_params (s : State) :
    (s.answered).params = s.params := rfl

@[simp] theorem State.answered_mem (s : State) :
    (s.answered).mem = s.mem := rfl

@[simp] theorem State.answered_admitted (s : State) :
    (s.answered).admitted = s.admitted := rfl

@[simp] theorem State.answered_racing (s : State) :
    (s.answered).racing = s.racing := rfl

@[simp] theorem State.answered_program (s : State) :
    (s.answered).program = s.program := rfl

@[simp] theorem State.answered_index (s : State) :
    (s.answered).index = s.index := rfl

@[simp] theorem State.answered_responses (s : State) :
    (s.answered).responses = s.responses := rfl

@[simp] theorem State.answered_draws (s : State) :
    (s.answered).draws = s.draws := rfl

/-! ## receive -/

@[simp] theorem State.receive_status (s : State) :
    (s.receive).status = s.status := rfl

@[simp] theorem State.receive_phase (s : State) :
    (s.receive).phase = .between := rfl

@[simp] theorem State.receive_req (s : State) :
    (s.receive).req = s.req := rfl

@[simp] theorem State.receive_rsp (s : State) :
    (s.receive).rsp = s.rsp := rfl

@[simp] theorem State.receive_params (s : State) :
    (s.receive).params = s.params := rfl

@[simp] theorem State.receive_mem (s : State) :
    (s.receive).mem = s.mem := rfl

@[simp] theorem State.receive_admitted (s : State) :
    (s.receive).admitted = s.admitted := rfl

@[simp] theorem State.receive_racing (s : State) :
    (s.receive).racing = s.racing := rfl

@[simp] theorem State.receive_program (s : State) :
    (s.receive).program = s.program := rfl

@[simp] theorem State.receive_index (s : State) :
    (s.receive).index = s.index + 1 := rfl

@[simp] theorem State.receive_responses (s : State) :
    (s.receive).responses = s.responses ++ [s.rsp] := rfl

@[simp] theorem State.receive_draws (s : State) :
    (s.receive).draws = s.draws := rfl

/-! ## platformReset -/

@[simp] theorem State.platformReset_status (s : State) :
    (s.platformReset).status = 0x00#8 := rfl

@[simp] theorem State.platformReset_phase (s : State) :
    (s.platformReset).phase = .between := rfl

@[simp] theorem State.platformReset_req (s : State) :
    (s.platformReset).req = s.req := rfl

@[simp] theorem State.platformReset_rsp (s : State) :
    (s.platformReset).rsp = {} := rfl

@[simp] theorem State.platformReset_params (s : State) :
    (s.platformReset).params = s.params := rfl

@[simp] theorem State.platformReset_mem (s : State) :
    (s.platformReset).mem = s.mem := rfl

@[simp] theorem State.platformReset_admitted (s : State) :
    (s.platformReset).admitted = s.admitted := rfl

@[simp] theorem State.platformReset_racing (s : State) :
    (s.platformReset).racing = [] := rfl

@[simp] theorem State.platformReset_program (s : State) :
    (s.platformReset).program = s.program := rfl

@[simp] theorem State.platformReset_index (s : State) :
    (s.platformReset).index = s.index := rfl

@[simp] theorem State.platformReset_responses (s : State) :
    (s.platformReset).responses = s.responses := rfl

@[simp] theorem State.platformReset_draws (s : State) :
    (s.platformReset).draws = s.draws := rfl

/-! ## abandon -/

@[simp] theorem State.abandon_status (s : State) :
    (s.abandon).status = 0x00#8 := rfl

@[simp] theorem State.abandon_phase (s : State) :
    (s.abandon).phase = .between := rfl

@[simp] theorem State.abandon_req (s : State) :
    (s.abandon).req = s.req := rfl

@[simp] theorem State.abandon_rsp (s : State) :
    (s.abandon).rsp = {} := rfl

@[simp] theorem State.abandon_params (s : State) :
    (s.abandon).params = s.params := rfl

@[simp] theorem State.abandon_mem (s : State) :
    (s.abandon).mem = s.mem := rfl

@[simp] theorem State.abandon_admitted (s : State) :
    (s.abandon).admitted = s.admitted := rfl

@[simp] theorem State.abandon_racing (s : State) :
    (s.abandon).racing = [] := rfl

@[simp] theorem State.abandon_program (s : State) :
    (s.abandon).program = s.program := rfl

@[simp] theorem State.abandon_index (s : State) :
    (s.abandon).index = s.index + 1 := rfl

@[simp] theorem State.abandon_responses (s : State) :
    (s.abandon).responses = s.responses := rfl

@[simp] theorem State.abandon_draws (s : State) :
    (s.abandon).draws = s.draws := rfl

/-! ## platformWrite and completeWrite: all but pixel memory -/

@[simp] theorem State.platformWrite_status (a : Nat) (b : Byte) (s : State) :
    (s.platformWrite a b).status = s.status := by
  unfold State.platformWrite; split <;> rfl

@[simp] theorem State.platformWrite_phase (a : Nat) (b : Byte) (s : State) :
    (s.platformWrite a b).phase = s.phase := by
  unfold State.platformWrite; split <;> rfl

@[simp] theorem State.platformWrite_req (a : Nat) (b : Byte) (s : State) :
    (s.platformWrite a b).req = s.req := by
  unfold State.platformWrite; split <;> rfl

@[simp] theorem State.platformWrite_rsp (a : Nat) (b : Byte) (s : State) :
    (s.platformWrite a b).rsp = s.rsp := by
  unfold State.platformWrite; split <;> rfl

@[simp] theorem State.platformWrite_params (a : Nat) (b : Byte) (s : State) :
    (s.platformWrite a b).params = s.params := by
  unfold State.platformWrite; split <;> rfl

@[simp] theorem State.platformWrite_admitted (a : Nat) (b : Byte) (s : State) :
    (s.platformWrite a b).admitted = s.admitted := by
  unfold State.platformWrite; split <;> rfl

@[simp] theorem State.platformWrite_racing (a : Nat) (b : Byte) (s : State) :
    (s.platformWrite a b).racing = s.racing := by
  unfold State.platformWrite; split <;> rfl

@[simp] theorem State.platformWrite_program (a : Nat) (b : Byte) (s : State) :
    (s.platformWrite a b).program = s.program := by
  unfold State.platformWrite; split <;> rfl

@[simp] theorem State.platformWrite_index (a : Nat) (b : Byte) (s : State) :
    (s.platformWrite a b).index = s.index := by
  unfold State.platformWrite; split <;> rfl

@[simp] theorem State.platformWrite_responses (a : Nat) (b : Byte) (s : State) :
    (s.platformWrite a b).responses = s.responses := by
  unfold State.platformWrite; split <;> rfl

@[simp] theorem State.platformWrite_draws (a : Nat) (b : Byte) (s : State) :
    (s.platformWrite a b).draws = s.draws := by
  unfold State.platformWrite; split <;> rfl

@[simp] theorem State.completeWrite_status (w : Host.Cell) (ws : List Host.Cell) (s : State) :
    (s.completeWrite w ws).status = s.status := by
  simp [State.completeWrite]

@[simp] theorem State.completeWrite_phase (w : Host.Cell) (ws : List Host.Cell) (s : State) :
    (s.completeWrite w ws).phase = s.phase := by
  simp [State.completeWrite]

@[simp] theorem State.completeWrite_req (w : Host.Cell) (ws : List Host.Cell) (s : State) :
    (s.completeWrite w ws).req = s.req := by
  simp [State.completeWrite]

@[simp] theorem State.completeWrite_rsp (w : Host.Cell) (ws : List Host.Cell) (s : State) :
    (s.completeWrite w ws).rsp = s.rsp := by
  simp [State.completeWrite]

@[simp] theorem State.completeWrite_params (w : Host.Cell) (ws : List Host.Cell) (s : State) :
    (s.completeWrite w ws).params = s.params := by
  simp [State.completeWrite]

@[simp] theorem State.completeWrite_admitted (w : Host.Cell) (ws : List Host.Cell) (s : State) :
    (s.completeWrite w ws).admitted = s.admitted := by
  simp [State.completeWrite]

@[simp] theorem State.completeWrite_racing (w : Host.Cell) (ws : List Host.Cell) (s : State) :
    (s.completeWrite w ws).racing = ws := by
  simp [State.completeWrite]

@[simp] theorem State.completeWrite_program (w : Host.Cell) (ws : List Host.Cell) (s : State) :
    (s.completeWrite w ws).program = s.program := by
  simp [State.completeWrite]

@[simp] theorem State.completeWrite_index (w : Host.Cell) (ws : List Host.Cell) (s : State) :
    (s.completeWrite w ws).index = s.index := by
  simp [State.completeWrite]

@[simp] theorem State.completeWrite_responses (w : Host.Cell) (ws : List Host.Cell) (s : State) :
    (s.completeWrite w ws).responses = s.responses := by
  simp [State.completeWrite]

@[simp] theorem State.completeWrite_draws (w : Host.Cell) (ws : List Host.Cell) (s : State) :
    (s.completeWrite w ws).draws = s.draws := by
  simp [State.completeWrite]

/-! ## STATUS after an update -/

@[simp] theorem State.respond_statusRead (r : Response) (s : State) : (s.respond r).statusRead = s.statusRead := rfl

@[simp] theorem State.respond_faulted (r : Response) (s : State) : (s.respond r).faulted = s.faulted := rfl

@[simp] theorem State.advanceDraws_faulted (n : Nat) (s : State) : (s.advanceDraws n).faulted = s.faulted := rfl

@[simp] theorem State.present_faulted (p : Phase) (r : Request) (ws : List Host.Cell) (rest : List Action) (s : State) :
    (s.present p r ws rest).faulted = s.faulted := rfl

/-- The STATUS bytes of spec/95_test_vectors.md's notation. -/
theorem faultStatus_eq (c : Cause) :
    faultStatus c = match c with
      | .illegalCommand => 0x03#8
      | .nullDecoder => 0x05#8
      | .precondition => 0x07#8 := by
  cases c <;> decide

/-- A fault status has no reserved bit. -/
@[simp] theorem faultStatus_masked (c : Cause) : faultStatus c &&& 0x0F#8 = faultStatus c := by
  cases c <;> decide

/-- A fault status has FAULT set. -/
@[simp] theorem faultStatus_fault (c : Cause) : (faultStatus c).getLsbD 0 = true := by
  cases c <;> decide

/-- Fault entry, written out. -/
theorem State.enterFault_eq (c : Cause) (s : State) :
    s.enterFault c = { s with status := faultStatus c, rsp := { status := some (faultStatus c) } } := by
  simp only [State.enterFault, State.setStatus, State.respond, State.statusRead, faultStatus_masked]

/-- Fault entry leaves FAULT set, whatever STATUS held. -/
@[simp] theorem State.enterFault_faulted (c : Cause) (s : State) : (s.enterFault c).faulted = true := by
  simp [State.enterFault_eq, State.faulted]

end Sys2Proof.Machine
end

