-- ==== Sys2Proof/Laws/Memory.lean ====
section
/-! SUPPORT. Pixel memory: reading after writing, and the canonical form. -/

namespace Sys2Proof.Machine

theorem Memory.wfFrom_mono {lo lo' : Nat} (h : lo' ≤ lo) {m : Memory} (hm : m.wfFrom lo = true) :
    m.wfFrom lo' = true := by
  cases m with
  | nil => rfl
  | cons c m =>
    simp only [Memory.wfFrom, Bool.and_eq_true, decide_eq_true_eq] at hm ⊢
    exact ⟨⟨by omega, hm.1.2⟩, hm.2⟩

/-- In canonical form from `lo` on, an address below `lo` is not listed. -/
theorem Memory.readByte_below {lo a : Nat} (h : a < lo) {m : Memory} (hm : m.wfFrom lo = true) :
    m.readByte a = unlistedByte := by
  induction m generalizing lo with
  | nil => rfl
  | cons c m ih =>
    simp only [Memory.wfFrom, Bool.and_eq_true, decide_eq_true_eq] at hm
    have hne : c.1 ≠ a := by omega
    simp only [Memory.readByte, hne, if_false]
    exact ih (by omega) hm.2

/-- A byte written reads back. -/
theorem Memory.readByte_writeByte_same {lo : Nat} {m : Memory} (hm : m.wfFrom lo = true) (a : Nat) (b : Byte) :
    (m.writeByte a b).readByte a = b := by
  induction m generalizing lo with
  | nil => by_cases hb : b = unlistedByte <;> simp [Memory.writeByte, Memory.readByte, hb]
  | cons c m ih =>
    simp only [Memory.wfFrom, Bool.and_eq_true, decide_eq_true_eq] at hm
    unfold Memory.writeByte
    split
    · split
      · next hlt hb => rw [hb]; exact Memory.readByte_below (lo := c.1) hlt (by simp [Memory.wfFrom, hm])
      · simp [Memory.readByte]
    · split
      · next heq =>
        split
        · next hb => rw [hb]; exact Memory.readByte_below (lo := c.1 + 1) (by omega) hm.2
        · simp [Memory.readByte]
      · next hne =>
        have : c.1 ≠ a := fun h => hne h.symm
        simp only [Memory.readByte, this, if_false]
        exact ih hm.2

/-- A write leaves every other address alone. -/
theorem Memory.readByte_writeByte_other {a a' : Nat} (h : a' ≠ a) (m : Memory) (b : Byte) :
    (m.writeByte a b).readByte a' = m.readByte a' := by
  induction m with
  | nil => by_cases hb : b = unlistedByte <;> simp [Memory.writeByte, Memory.readByte, hb, h.symm]
  | cons c m ih =>
    unfold Memory.writeByte
    split
    · split
      · rfl
      · simp [Memory.readByte, h.symm]
    · split
      · next heq => split <;> simp [Memory.readByte, ← heq, h.symm]
      · simp only [Memory.readByte, ih]

theorem Memory.wfFrom_writeByte {lo : Nat} {m : Memory} (hm : m.wfFrom lo = true) {a : Nat} (ha : lo ≤ a) (b : Byte) :
    (m.writeByte a b).wfFrom lo = true := by
  induction m generalizing lo with
  | nil => by_cases hb : b = unlistedByte <;> simp [Memory.writeByte, Memory.wfFrom, hb, ha]
  | cons c m ih =>
    have hm' := hm
    simp only [Memory.wfFrom, Bool.and_eq_true, decide_eq_true_eq] at hm
    unfold Memory.writeByte
    split
    · split
      · exact hm'
      · next hlt hb =>
        simp only [Memory.wfFrom, Bool.and_eq_true, decide_eq_true_eq]
        exact ⟨⟨ha, hb⟩, ⟨by omega, hm.1.2⟩, hm.2⟩
    · split
      · next heq =>
        split
        · exact Memory.wfFrom_mono (by omega) hm.2
        · next hb =>
          simp only [Memory.wfFrom, Bool.and_eq_true, decide_eq_true_eq]
          exact ⟨⟨ha, hb⟩, heq ▸ hm.2⟩
      · simp only [Memory.wfFrom, Bool.and_eq_true, decide_eq_true_eq]
        exact ⟨hm.1, ih hm.2 (by omega)⟩

/-- A write keeps the canonical form. -/
theorem Memory.wf_writeByte {m : Memory} (hm : m.wf = true) (a : Nat) (b : Byte) : (m.writeByte a b).wf = true :=
  Memory.wfFrom_writeByte hm (Nat.zero_le a) b

/-- A platform write keeps the canonical form. -/
theorem State.wf_platformWrite {s : State} (h : s.mem.wf = true) (a : Nat) (b : Byte) :
    (s.platformWrite a b).mem.wf = true := by
  unfold State.platformWrite
  split
  · exact Memory.wf_writeByte h _ b
  · exact h

/-- A completed racing write keeps the canonical form. -/
theorem State.wf_completeWrite {s : State} (h : s.mem.wf = true) (w : Host.Cell) (ws : List Host.Cell) :
    (s.completeWrite w ws).mem.wf = true :=
  State.wf_platformWrite (s := { s with racing := ws }) h w.1 w.2

/-- Reset memory is in canonical form. -/
theorem State.wf_reset : State.reset.mem.wf = true := rfl

/-- With no write racing it, a read of an admitted byte is the stored byte. -/
theorem State.readByte_calm {s : State} (hw : s.racing = []) {a : Nat} (ha : s.admits a = true) :
    s.readByte a = some (s.mem.readByte a) := by
  simp [State.readByte, ha, hw, raceByte]

/-- A read is stuck exactly where the platform admits no memory. -/
theorem State.readByte_eq_none_iff (s : State) (a : Nat) : s.readByte a = none ↔ s.admits a = false := by
  unfold State.readByte; split <;> simp_all

/-- A racing read sees what stood there or one of the racing writes to the address. -/
theorem raceByte_mem (t w a k : Nat) (ws : List Host.Cell) (old : Byte) :
    raceByte t w a k ws old = old ∨ ∃ c ∈ ws, c.1 % 2 ^ w = a ∧ raceByte t w a k ws old = c.2 := by
  induction ws generalizing k old with
  | nil => exact .inl rfl
  | cons c ws ih =>
    unfold raceByte
    by_cases hc : c.1 % 2 ^ w = a
    · rcases ih (k + 1) (if c.1 % 2 ^ w = a then (if Config.raceTakesNew t a k then c.2 else old) else old) with h | h
      · rw [h]
        by_cases hn : Config.raceTakesNew t a k
        · exact .inr ⟨c, by simp, hc, by simp [hc, hn]⟩
        · exact .inl (by simp [hn])
      · obtain ⟨d, hd, h1, h2⟩ := h
        exact .inr ⟨d, by simp [hd], h1, h2⟩
    · simp only [hc, if_false]
      rcases ih (k + 1) old with h | ⟨d, hd, h1, h2⟩
      · exact .inl h
      · exact .inr ⟨d, by simp [hd], h1, h2⟩

theorem State.readBytes_isSome_iff (s : State) (addr n : Nat) :
    (s.readBytes addr n).isSome = true ↔ ∀ i < n, s.admits (s.byteAddr (addr + i)) = true := by
  induction n with
  | zero => simp [State.readBytes]
  | succ n ih =>
    have hb : (s.readByte (s.byteAddr (addr + n))).isSome = s.admits (s.byteAddr (addr + n)) := by
      unfold State.readByte; split <;> simp_all
    have hs : (s.readBytes addr (n + 1)).isSome =
        ((s.readBytes addr n).isSome && (s.readByte (s.byteAddr (addr + n))).isSome) := by
      simp only [State.readBytes]
      cases s.readBytes addr n <;> cases s.readByte (s.byteAddr (addr + n)) <;> rfl
    rw [hs, hb, Bool.and_eq_true, ih]
    exact ⟨fun h i hi => (Nat.lt_succ_iff_lt_or_eq.mp hi).elim (h.1 i) (fun e => e ▸ h.2),
      fun h => ⟨fun i hi => h i (by omega), h n (by omega)⟩⟩

/-- `MemRead` gives a value exactly where every byte is admitted. -/
theorem State.memRead_isSome_iff (s : State) (addr n : Nat) :
    (s.memRead addr n).isSome = true ↔ ∀ i < n, s.admits (s.byteAddr (addr + i)) = true := by
  rw [← s.readBytes_isSome_iff addr n]; simp [State.memRead]

/-- Two states that read every byte the same read every pixel the same. -/
theorem State.memRead_congr {s t : State} (hp : s.params = t.params) (h : ∀ a, s.readByte a = t.readByte a)
    (addr n : Nat) : s.memRead addr n = t.memRead addr n := by
  have hb : ∀ n, s.readBytes addr n = t.readBytes addr n := by
    intro n
    induction n with
    | zero => rfl
    | succ n ih => simp only [State.readBytes, ih, h, State.byteAddr, hp]
  simp only [State.memRead, hb, hp]

end Sys2Proof.Machine
end

