-- ==== Sys2Proof/Laws/Operands.lean ====
section
/-! SUPPORT. Fields of a value read through another field, and packed values as numbers. -/

namespace Sys2Proof.Machine

/-- A field as a number. -/
theorem field_toNat {w : Nat} (v : BitVec w) (lo n : Nat) : (v.extractLsb' lo n).toNat = v.toNat / 2 ^ lo % 2 ^ n := by
  simp [BitVec.extractLsb'_toNat, Nat.shiftRight_eq_div_pow]

@[simp] theorem r5_low16 (v : Word) : r5 (low16 v) = v.extractLsb' 11 5 := by
  apply BitVec.eq_of_toNat_eq; simp only [r5, low16, field_toNat]; omega

@[simp] theorem g6_low16 (v : Word) : g6 (low16 v) = v.extractLsb' 5 6 := by
  apply BitVec.eq_of_toNat_eq; simp only [g6, low16, field_toNat]; omega

@[simp] theorem b5_low16 (v : Word) : b5 (low16 v) = v.extractLsb' 0 5 := by
  apply BitVec.eq_of_toNat_eq; simp only [b5, low16, field_toNat]; omega

/-- Two values in disjoint bit ranges: or is sum. -/
theorem shift_or_toNat (a b k : Nat) (h : b < 2 ^ k) : (a <<< k) ||| b = a * 2 ^ k + b := by
  rw [Nat.shiftLeft_eq, Nat.mul_comm, Nat.two_pow_add_eq_or_of_lt h]

theorem pack565_toNat (r : BitVec 5) (g : BitVec 6) (b : BitVec 5) :
    (pack565 r g b).toNat = 2048 * r.toNat + 32 * g.toNat + b.toNat := by
  have hr := r.isLt
  have hg := g.isLt
  have hb := b.isLt
  simp only [pack565, BitVec.toNat_or, BitVec.toNat_shiftLeft, BitVec.truncate_eq_setWidth, BitVec.toNat_setWidth]
  have e1 : (r.toNat % 2 ^ 16) <<< 11 % 2 ^ 16 = r.toNat <<< 11 := by simp only [Nat.shiftLeft_eq]; omega
  have e2 : (g.toNat % 2 ^ 16) <<< 5 % 2 ^ 16 = g.toNat <<< 5 := by simp only [Nat.shiftLeft_eq]; omega
  have e3 : b.toNat % 2 ^ 16 = b.toNat := by omega
  rw [e1, e2, e3, Nat.or_assoc, shift_or_toNat _ _ 5 (by omega), shift_or_toNat _ _ 11 (by omega)]
  omega

theorem pack888_toNat (r g b : Byte) : (pack888 r g b).toNat = 65536 * r.toNat + 256 * g.toNat + b.toNat := by
  have hr := r.isLt
  have hg := g.isLt
  have hb := b.isLt
  simp only [pack888, BitVec.toNat_or, BitVec.toNat_shiftLeft, BitVec.truncate_eq_setWidth, BitVec.toNat_setWidth]
  have e1 : (r.toNat % 2 ^ 24) <<< 16 % 2 ^ 24 = r.toNat <<< 16 := by simp only [Nat.shiftLeft_eq]; omega
  have e2 : (g.toNat % 2 ^ 24) <<< 8 % 2 ^ 24 = g.toNat <<< 8 := by simp only [Nat.shiftLeft_eq]; omega
  have e3 : b.toNat % 2 ^ 24 = b.toNat := by omega
  rw [e1, e2, e3, Nat.or_assoc, shift_or_toNat _ _ 8 (by omega), shift_or_toNat _ _ 16 (by omega)]
  omega

theorem pack8888_toNat (a r g b : Byte) :
    (pack8888 a r g b).toNat = 16777216 * a.toNat + (pack888 r g b).toNat := by
  have ha := a.isLt
  have hp := (pack888 r g b).isLt
  simp only [pack8888, BitVec.toNat_or, BitVec.toNat_shiftLeft, BitVec.truncate_eq_setWidth, BitVec.toNat_setWidth]
  have e1 : (a.toNat % 2 ^ 32) <<< 24 % 2 ^ 32 = a.toNat <<< 24 := by simp only [Nat.shiftLeft_eq]; omega
  have e2 : (pack888 r g b).toNat % 2 ^ 32 = (pack888 r g b).toNat := by omega
  rw [e1, e2, shift_or_toNat _ _ 24 (by omega)]
  omega

/-- Unpacking the lanes of a value and packing them again. -/
theorem pack888_lanes (v : Word) : pack888 (laneR v) (laneG v) (laneB v) = low24 v := by
  apply BitVec.eq_of_toNat_eq
  rw [pack888_toNat]
  simp only [laneR, laneG, laneB, low24, field_toNat]
  omega

end Sys2Proof.Machine
end

