-- ==== Sys2Proof/Laws/Ops.lean ====
section
/-! SUPPORT. What each shared operation can do, said once, and from that what any meaning can do. -/

namespace Sys2Proof.Machine

@[simp] theorem transact_ready {s : State} (h : s.faulted = false) (body : Result) : transact s body = body := by
  simp [transact, h]

@[simp] theorem transact_halted {s : State} (h : s.faulted = true) (body : Result) :
    transact s body = .next (s.respond {}) := by
  simp [transact, h]

@[simp] theorem checked_true (s : State) (violated body : Result) : checked true s violated body = body := rfl

theorem checked_debug {s : State} (h : s.params.debugAssert = true) (violated body : Result) :
    checked false s violated body = raiseFault .precondition s := by
  simp [checked, h]

theorem checked_release {s : State} (h : s.params.debugAssert = false) (violated body : Result) :
    checked false s violated body = violated := by
  simp [checked, h]

theorem withPixel_read {fmt : PixelFormat} {s : State} {v : Word}
    (h : s.memRead s.req.addr fmt.readWidth = some v) (body : Word → Result) : withPixel fmt s body = body v := by
  simp [withPixel, h]

theorem withPixel_stuck {fmt : PixelFormat} {s : State} (h : s.memRead s.req.addr fmt.readWidth = none)
    (body : Word → Result) : withPixel fmt s body = .fault .stuckUnadmittedRead := by
  simp [withPixel, h]

/-- Everything the answer to a request can be: a response (after `n` draws), a fault entered by a PFC that was not
halted, or a stuck read. -/
inductive AnswerShape (s : State) : Result → Prop
  | responded (r : Response) (n : Nat) : AnswerShape s (.next ((s.respond r).advanceDraws n))
  | entered (c : Cause) (ready : s.faulted = false) : AnswerShape s (raiseFault c s)
  | stuck (ready : s.faulted = false) : AnswerShape s (.fault .stuckUnadmittedRead)

theorem AnswerShape.respond (s : State) (r : Response) : AnswerShape s (.next (s.respond r)) := .responded r 0

theorem AnswerShape.transact {s : State} {body : Result} (h : s.faulted = false → AnswerShape s body) :
    AnswerShape s (transact s body) := by
  cases hf : s.faulted
  · rw [transact_ready hf]; exact h hf
  · rw [transact_halted hf]; exact .respond s {}

theorem AnswerShape.checked {s : State} (hf : s.faulted = false) {ok : Bool} {violated body : Result}
    (hv : AnswerShape s violated) (hb : AnswerShape s body) : AnswerShape s (checked ok s violated body) := by
  unfold Sys2Proof.Machine.checked
  split
  · exact hb
  · split
    · exact .entered .precondition hf
    · exact hv

theorem AnswerShape.withPixel {s : State} (hf : s.faulted = false) {fmt : PixelFormat} {body : Word → Result}
    (hb : ∀ v, AnswerShape s (body v)) : AnswerShape s (withPixel fmt s body) := by
  unfold Sys2Proof.Machine.withPixel
  split
  · exact hb _
  · exact .stuck hf

theorem AnswerShape.decodeRoutine (fmt : PixelFormat) (s : State) (k : Word → Response) :
    AnswerShape s (decodeRoutine fmt s k) :=
  .transact fun hf => .withPixel hf fun _ => .respond s _

theorem AnswerShape.decodeMonoRoutine (s : State) (n : Nat) (drawn : Response) (lit : Bool → Response) :
    AnswerShape s (decodeMonoRoutine s n drawn lit) :=
  .transact fun hf => .checked hf (.withPixel hf fun _ => .responded _ n) (.withPixel hf fun _ => .respond s _)

theorem AnswerShape.nullDecoder (s : State) : AnswerShape s (nullDecoder s) :=
  .transact fun hf => .entered .nullDecoder hf

theorem AnswerShape.illegalCommand (s : State) : AnswerShape s (illegalCommand s) :=
  .transact fun hf => .entered .illegalCommand hf

theorem AnswerShape.convert (s : State) (r : Response) : AnswerShape s (convert s r) :=
  .transact fun _ => .respond s r

theorem AnswerShape.decode565A5Mono (s : State) : AnswerShape s (execDecode565A5Mono s) := by
  unfold execDecode565A5Mono; exact .decodeMonoRoutine s _ _ _

theorem AnswerShape.decode565A8Mono (s : State) : AnswerShape s (execDecode565A8Mono s) := by
  unfold execDecode565A8Mono; exact .decodeMonoRoutine s _ _ _

theorem AnswerShape.decodeArgbMono (s : State) : AnswerShape s (execDecodeArgbMono s) := by
  unfold execDecodeArgbMono; exact .decodeMonoRoutine s _ _ _

theorem AnswerShape.decodePacked32Mono (s : State) : AnswerShape s (execDecodePacked32Mono s) := by
  unfold execDecodePacked32Mono; exact .decodeMonoRoutine s _ _ _

theorem AnswerShape.runRoutine (rep : TargetRep) (fmt : PixelFormat) (s : State) :
    AnswerShape s (runRoutine rep fmt s) := by
  cases rep <;> cases fmt <;> first
    | exact .nullDecoder s
    | exact .decodeRoutine _ s _
    | exact .decode565A5Mono s | exact .decode565A8Mono s | exact .decodeArgbMono s | exact .decodePacked32Mono s

theorem execDecode_invalid {h : BitVec 8} (hh : handleTarget? h = none) (s : State) :
    execDecode h s = nullDecoder s := by
  simp [execDecode, hh]

theorem execDecode_valid {h : BitVec 8} {rep : TargetRep} {fmt : PixelFormat}
    (hh : handleTarget? h = some (rep, fmt)) (s : State) : execDecode h s = runRoutine rep fmt s := by
  simp [execDecode, hh]

theorem AnswerShape.execDecode (h : BitVec 8) (s : State) : AnswerShape s (execDecode h s) := by
  cases hh : handleTarget? h with
  | none => rw [execDecode_invalid hh]; exact .nullDecoder s
  | some p => rw [execDecode_valid (rep := p.1) (fmt := p.2) hh]; exact .runRoutine p.1 p.2 s

/-- What any instruction can do. -/
theorem exec_shape (i : Instr) (s : State) : AnswerShape s (exec i s) := by
  cases i <;> first
    | exact .convert s _
    | exact .decodeRoutine _ s _
    | exact .execDecode _ s
    | exact .decode565A5Mono s | exact .decode565A8Mono s | exact .decodeArgbMono s | exact .decodePacked32Mono s
    | exact .transact fun _ => .respond s _
    | exact .transact fun hf => .checked hf (.responded _ 1) (.respond s _)

end Sys2Proof.Machine
end

