-- ==== Sys2Proof/Laws/PerInstr.lean ====
section
/-! SUPPORT. Facts about every instruction as syntax, one lemma per constructor. -/

namespace Sys2Proof.Laws.ReservedZero

/-- The encoding of an instruction has RSV = CMD[31:16] = 0 (spec/30_encoding.md R61). -/
def Statement (i : Instr) : Prop := cmdRsv (encode i) = 0#16

theorem hasAlpha (fmt : PixelFormat) : Statement (.hasAlpha fmt) := by unfold Statement; cases fmt <;> decide

theorem byteWidth (fmt : PixelFormat) : Statement (.byteWidth fmt) := by unfold Statement; cases fmt <;> decide

theorem lookup (fmt : PixelFormat) (rep : TargetRep) : Statement (.lookup fmt rep) := by unfold Statement; cases fmt <;> cases rep <;> decide

theorem decode (handle : BitVec 8) : Statement (.decode handle) := by revert handle; unfold Statement; decide

theorem cvtRgbTo565 : Statement (.cvtRgbTo565) := by unfold Statement; decide

theorem cvt565ToRgb : Statement (.cvt565ToRgb) := by unfold Statement; decide

theorem cvt888To565 : Statement (.cvt888To565) := by unfold Statement; decide

theorem cvt565To888 : Statement (.cvt565To888) := by unfold Statement; decide

theorem cvt8888To565A8 : Statement (.cvt8888To565A8) := by unfold Statement; decide

theorem cvt8888To565A5 : Statement (.cvt8888To565A5) := by unfold Statement; decide

theorem cvt8565To8888 : Statement (.cvt8565To8888) := by unfold Statement; decide

theorem cvtGrayTo565 : Statement (.cvtGrayTo565) := by unfold Statement; decide

theorem cvtGrayTo888 : Statement (.cvtGrayTo888) := by unfold Statement; decide

theorem cvt565ToGray : Statement (.cvt565ToGray) := by unfold Statement; decide

theorem cvt888ToGray : Statement (.cvt888ToGray) := by unfold Statement; decide

theorem cvtMonoTo565 : Statement (.cvtMonoTo565) := by unfold Statement; decide

theorem cvtMonoTo888 : Statement (.cvtMonoTo888) := by unfold Statement; decide

theorem cvt565ToMono : Statement (.cvt565ToMono) := by unfold Statement; decide

theorem cvt888ToMono : Statement (.cvt888ToMono) := by unfold Statement; decide

theorem blend565 : Statement (.blend565) := by unfold Statement; decide

theorem blend565A8 : Statement (.blend565A8) := by unfold Statement; decide

theorem prep565 : Statement (.prep565) := by unfold Statement; decide

theorem blend565p : Statement (.blend565p) := by unfold Statement; decide

theorem blend565pA8 : Statement (.blend565pA8) := by unfold Statement; decide

theorem blend888 : Statement (.blend888) := by unfold Statement; decide

theorem prep888 : Statement (.prep888) := by unfold Statement; decide

theorem blend888p : Statement (.blend888p) := by unfold Statement; decide

theorem blendargb : Statement (.blendargb) := by unfold Statement; decide

theorem decode565A5Rgb565 : Statement (.decode565A5Rgb565) := by unfold Statement; decide

theorem decode565A5Argb4444 : Statement (.decode565A5Argb4444) := by unfold Statement; decide

theorem decode565A5Argb6666 : Statement (.decode565A5Argb6666) := by unfold Statement; decide

theorem decode565A5Argb8565 : Statement (.decode565A5Argb8565) := by unfold Statement; decide

theorem decode565A5Rgb888 : Statement (.decode565A5Rgb888) := by unfold Statement; decide

theorem decode565A5Argb8888 : Statement (.decode565A5Argb8888) := by unfold Statement; decide

theorem decode565A5Mono : Statement (.decode565A5Mono) := by unfold Statement; decide

theorem decode565A5Grayscale : Statement (.decode565A5Grayscale) := by unfold Statement; decide

theorem decode565A8Rgb565 : Statement (.decode565A8Rgb565) := by unfold Statement; decide

theorem decode565A8Argb4444 : Statement (.decode565A8Argb4444) := by unfold Statement; decide

theorem decode565A8Argb6666 : Statement (.decode565A8Argb6666) := by unfold Statement; decide

theorem decode565A8Argb8565 : Statement (.decode565A8Argb8565) := by unfold Statement; decide

theorem decode565A8Rgb888 : Statement (.decode565A8Rgb888) := by unfold Statement; decide

theorem decode565A8Argb8888 : Statement (.decode565A8Argb8888) := by unfold Statement; decide

theorem decode565A8Mono : Statement (.decode565A8Mono) := by unfold Statement; decide

theorem decode565A8Grayscale : Statement (.decode565A8Grayscale) := by unfold Statement; decide

theorem decodeArgbRgb565 : Statement (.decodeArgbRgb565) := by unfold Statement; decide

theorem decodeArgbArgb4444 : Statement (.decodeArgbArgb4444) := by unfold Statement; decide

theorem decodeArgbArgb6666 : Statement (.decodeArgbArgb6666) := by unfold Statement; decide

theorem decodeArgbArgb8565 : Statement (.decodeArgbArgb8565) := by unfold Statement; decide

theorem decodeArgbRgb888 : Statement (.decodeArgbRgb888) := by unfold Statement; decide

theorem decodeArgbArgb8888 : Statement (.decodeArgbArgb8888) := by unfold Statement; decide

theorem decodeArgbMono : Statement (.decodeArgbMono) := by unfold Statement; decide

theorem decodeArgbGrayscale : Statement (.decodeArgbGrayscale) := by unfold Statement; decide

theorem decodePacked32Rgb565 : Statement (.decodePacked32Rgb565) := by unfold Statement; decide

theorem decodePacked32Argb4444 : Statement (.decodePacked32Argb4444) := by unfold Statement; decide

theorem decodePacked32Argb6666 : Statement (.decodePacked32Argb6666) := by unfold Statement; decide

theorem decodePacked32Argb8565 : Statement (.decodePacked32Argb8565) := by unfold Statement; decide

theorem decodePacked32Rgb888 : Statement (.decodePacked32Rgb888) := by unfold Statement; decide

theorem decodePacked32Argb8888 : Statement (.decodePacked32Argb8888) := by unfold Statement; decide

theorem decodePacked32Mono : Statement (.decodePacked32Mono) := by unfold Statement; decide

theorem decodePacked32Grayscale : Statement (.decodePacked32Grayscale) := by unfold Statement; decide

end Sys2Proof.Laws.ReservedZero
end

