-- ==== Sys2Proof/Laws/Step.lean ====
section
/-! SUPPORT. What a step can do, said once: which agent takes it and what it leaves. -/

namespace Sys2Proof.Machine

/-- Whatever the command word, PFC's answer has one of the three shapes of `AnswerShape`. -/
theorem answer_shape (s : State) : AnswerShape s (answer s) := by
  unfold answer
  split
  · exact exec_shape _ s
  · exact .illegalCommand s

theorem answer_command {s : State} {i : Instr} (h : decodeCmd s.req.cmd = .command i) : answer s = exec i s := by
  simp [answer, h]

theorem answer_illegal {s : State} {why : IllegalWord} (h : decodeCmd s.req.cmd = .illegal why) :
    answer s = illegalCommand s := by
  simp [answer, h]

/-- Everything a step that answers a next state can be. -/
inductive StepShape (s : State) : State → Prop
  | idle (p : s.phase = .between) (e : s.program = []) : StepShape s s
  | issued (p : s.phase = .between) (r : Request) (ws : List Host.Cell) (rest : List Action)
      (e : s.program = .request r ws :: rest) : StepShape s (s.present .requested r ws rest)
  | wrote (p : s.phase = .between) (a : Nat) (b : Byte) (rest : List Action) (e : s.program = .write a b :: rest) :
      StepShape s ({ s with program := rest }.platformWrite a b)
  | reset (p : s.phase = .between) (rest : List Action) (e : s.program = .reset :: rest) :
      StepShape s ({ s with program := rest }.platformReset)
  | issuedAbandoned (p : s.phase = .between) (r : Request) (rest : List Action)
      (e : s.program = .abandoned r :: rest) : StepShape s (s.present .resetting r [] rest)
  | responded (p : s.phase = .requested) (r : Response) (n : Nat) (e : answer s = .next ((s.respond r).advanceDraws n)) :
      StepShape s ((s.respond r).advanceDraws n).answered
  | entered (p : s.phase = .requested) (c : Cause) (ready : s.faulted = false) (e : answer s = raiseFault c s) :
      StepShape s (s.enterFault c).answered
  | abandoned (p : s.phase = .resetting) : StepShape s s.abandon
  | completed (p : s.phase = .responded) (w : Host.Cell) (ws : List Host.Cell) (e : s.racing = w :: ws) :
      StepShape s (s.completeWrite w ws)
  | received (p : s.phase = .responded) (e : s.racing = []) : StepShape s s.receive

theorem step_shape {s t : State} (h : step s = .next t) : StepShape s t := by
  unfold step at h
  split at h
  · next p =>
    unfold stepBetween at h
    split at h <;> cases h
    · exact .idle p ‹_›
    · exact .issued p _ _ _ ‹_›
    · exact .wrote p _ _ _ ‹_›
    · exact .reset p _ ‹_›
    · exact .issuedAbandoned p _ _ ‹_›
  · next p =>
    have shape := answer_shape s
    generalize e : answer s = o at h shape
    cases shape with
    | responded r n => cases h; exact .responded p r n e
    | entered c ready => cases h; exact .entered p c ready e
    | stuck ready => cases h
  · next p => cases h; exact .abandoned p
  · next p =>
    unfold stepResponded at h
    split at h <;> cases h
    · exact .completed p _ _ ‹_›
    · exact .received p ‹_›

end Sys2Proof.Machine
end

