-- ==== Sys2Proof/Tests/Slice0.lean ====
section
/-! SUPPORT. Tests on fixed values, their expected results taken from spec/95_test_vectors.md and the examples of the
rules, and for every obligation with hypotheses a witness that meets them. -/

namespace Sys2Proof.Tests
open Sys2Proof.Machine Sys2Proof.Claims

/-! ## Helpers -/

/-- The state of a next outcome. -/
def after : Result → Option State
  | .next s => some s
  | _ => none

/-- Whether an outcome is the stuck read. -/
def isStuck : Result → Bool
  | .fault .stuckUnadmittedRead => true
  | _ => false

/-- The state after reset with pixel memory `m`, whose host issues `r` next. -/
def host (m : Memory) (r : Request) : State := { State.reset with mem := m, program := [.request r []] }

/-- The state after reset with pixel memory `m`, whose host has issued `r`. -/
def issued (m : Memory) (r : Request) : State := { State.reset with mem := m, req := r, phase := .requested }

/-- The response of PFC's step to one request. -/
def reply (m : Memory) (r : Request) : Option Response := (after (step (issued m r))).map (·.rsp)

/-- Y0 of the response to a command word alone. -/
def answerY0 (w : Word) : Option Word := (reply [] { cmd := w }).bind (·.y0)

/-- STATUS in the response to a command word alone, and whether nothing else is driven. -/
def onlyStatus (w : Word) (status : Byte) : Bool := reply [] { cmd := w } = some { status := some status }

/-- The debug-mode parameters (R8). -/
def debugParams : Params := { Config.specParams with debugAssert := true }

/-- PFC with the request `r` presented. -/
def asked (r : Request) : State := { State.reset with req := r }

/-- The same with DEBUG_ASSERT = 1. -/
def askedDebug (r : Request) : State := { asked r with params := debugParams }

/-- PFC halted with cause NULL_DECODER. -/
def halted : State := { State.reset with status := 0x05#8 }

/-- A platform that admits the one byte at 0x5000. -/
def oneByte (r : Request) : State := { asked r with admitted := [{ base := 0x5000, size := 1 }], mem := [(0x5000, 0x1F#8)] }

/-! ## Well-formedness (log 6) -/

/-- The one check of `Instr.wellFormed`: DECODE of a valid handle is refused as a term of its own. -/
theorem test_wellFormed_refuses_decode_of_a_valid_handle :
    (Instr.decode 0x41#8).wellFormed = false ∧ (Instr.decode 0x79#8).wellFormed = false := by
  decide

theorem test_wellFormed_accepts :
    (Instr.decode 0x40#8).wellFormed = true ∧ (Instr.decode 0x47#8).wellFormed = true ∧
    (Instr.decode 0xC1#8).wellFormed = true ∧ (Instr.lookup .indexed .toArgb).wellFormed = true ∧
    Instr.decode565A5Rgb565.wellFormed = true := by
  decide

/-! ## Encodings (spec/30_encoding.md) -/

/-- Z-form command words of R65: the opcode in bits 7:0 and nothing else. -/
theorem test_conversion_words :
    [0x00000010#32, 0x00000011#32, 0x00000012#32, 0x00000013#32, 0x00000014#32, 0x00000015#32,
      0x00000016#32, 0x00000017#32, 0x00000018#32, 0x00000019#32, 0x0000001A#32, 0x0000001B#32,
      0x0000001C#32, 0x0000001D#32, 0x0000001E#32].map decodeCmd =
    [.command .cvtRgbTo565, .command .cvt565ToRgb, .command .cvt888To565, .command .cvt565To888,
      .command .cvt8888To565A8, .command .cvt8888To565A5, .command .cvt8565To8888,
      .command .cvtGrayTo565, .command .cvtGrayTo888, .command .cvt565ToGray, .command .cvt888ToGray,
      .command .cvtMonoTo565, .command .cvtMonoTo888, .command .cvt565ToMono, .command .cvt888ToMono] := by
  decide

/-- Z-form command words of R65: the opcode in bits 7:0 and nothing else. -/
theorem test_blend_words :
    [0x00000020#32, 0x00000021#32, 0x00000022#32, 0x00000023#32, 0x00000024#32, 0x00000028#32,
      0x00000029#32, 0x0000002A#32, 0x0000002B#32].map decodeCmd =
    [.command .blend565, .command .blend565A8, .command .prep565, .command .blend565p,
      .command .blend565pA8, .command .blend888, .command .prep888, .command .blend888p,
      .command .blendargb] := by
  decide

/-- DECODE words of R66 and R72: OPC 0x04, SEL the handle 0x40 | REP << 4 | FMT with REP = 0. -/
theorem test_handle_words_565a5 :
    [0x00004104#32, 0x00004204#32, 0x00004304#32, 0x00004404#32, 0x00004504#32, 0x00004604#32,
      0x00004804#32, 0x00004904#32].map decodeCmd =
    [.command .decode565A5Rgb565, .command .decode565A5Argb4444, .command .decode565A5Argb6666,
      .command .decode565A5Argb8565, .command .decode565A5Rgb888, .command .decode565A5Argb8888,
      .command .decode565A5Mono, .command .decode565A5Grayscale] := by
  decide

/-- DECODE words of R66 and R72: OPC 0x04, SEL the handle 0x40 | REP << 4 | FMT with REP = 1. -/
theorem test_handle_words_565a8 :
    [0x00005104#32, 0x00005204#32, 0x00005304#32, 0x00005404#32, 0x00005504#32, 0x00005604#32,
      0x00005804#32, 0x00005904#32].map decodeCmd =
    [.command .decode565A8Rgb565, .command .decode565A8Argb4444, .command .decode565A8Argb6666,
      .command .decode565A8Argb8565, .command .decode565A8Rgb888, .command .decode565A8Argb8888,
      .command .decode565A8Mono, .command .decode565A8Grayscale] := by
  decide

/-- DECODE words of R66 and R72: OPC 0x04, SEL the handle 0x40 | REP << 4 | FMT with REP = 2. -/
theorem test_handle_words_argb :
    [0x00006104#32, 0x00006204#32, 0x00006304#32, 0x00006404#32, 0x00006504#32, 0x00006604#32,
      0x00006804#32, 0x00006904#32].map decodeCmd =
    [.command .decodeArgbRgb565, .command .decodeArgbArgb4444, .command .decodeArgbArgb6666,
      .command .decodeArgbArgb8565, .command .decodeArgbRgb888, .command .decodeArgbArgb8888,
      .command .decodeArgbMono, .command .decodeArgbGrayscale] := by
  decide

/-- DECODE words of R66 and R72: OPC 0x04, SEL the handle 0x40 | REP << 4 | FMT with REP = 3. -/
theorem test_handle_words_packed32 :
    [0x00007104#32, 0x00007204#32, 0x00007304#32, 0x00007404#32, 0x00007504#32, 0x00007604#32,
      0x00007804#32, 0x00007904#32].map decodeCmd =
    [.command .decodePacked32Rgb565, .command .decodePacked32Argb4444, .command .decodePacked32Argb6666,
      .command .decodePacked32Argb8565, .command .decodePacked32Rgb888, .command .decodePacked32Argb8888,
      .command .decodePacked32Mono, .command .decodePacked32Grayscale] := by
  decide

/-- F-form words of R62 and R80: FMT in bits 11:8. -/
theorem test_hasAlpha_words :
    [0x00000001#32, 0x00000101#32, 0x00000201#32, 0x00000301#32, 0x00000401#32, 0x00000501#32,
      0x00000601#32, 0x00000701#32, 0x00000801#32, 0x00000901#32].map decodeCmd =
    [.command (.hasAlpha .unknown), .command (.hasAlpha .rgb565), .command (.hasAlpha .argb4444),
      .command (.hasAlpha .argb6666), .command (.hasAlpha .argb8565), .command (.hasAlpha .rgb888),
      .command (.hasAlpha .argb8888), .command (.hasAlpha .indexed), .command (.hasAlpha .mono),
      .command (.hasAlpha .grayscale)] := by
  decide

/-- F-form words of R62 and R81: FMT in bits 11:8. -/
theorem test_byteWidth_words :
    [0x00000002#32, 0x00000102#32, 0x00000202#32, 0x00000302#32, 0x00000402#32, 0x00000502#32,
      0x00000602#32, 0x00000702#32, 0x00000802#32, 0x00000902#32].map decodeCmd =
    [.command (.byteWidth .unknown), .command (.byteWidth .rgb565), .command (.byteWidth .argb4444),
      .command (.byteWidth .argb6666), .command (.byteWidth .argb8565), .command (.byteWidth .rgb888),
      .command (.byteWidth .argb8888), .command (.byteWidth .indexed), .command (.byteWidth .mono),
      .command (.byteWidth .grayscale)] := by
  decide

/-- L-form words of R62 and R82: FMT in bits 11:8, REP in bits 13:12. -/
theorem test_lookup_words :
    [0x00000003#32, 0x00000103#32, 0x00001203#32, 0x00002103#32, 0x00003703#32, 0x00003903#32].map decodeCmd =
    [.command (.lookup .unknown .to565A5), .command (.lookup .rgb565 .to565A5),
      .command (.lookup .argb4444 .to565A8), .command (.lookup .rgb565 .toArgb),
      .command (.lookup .indexed .toPacked32), .command (.lookup .grayscale .toPacked32)] := by
  decide

/-- H-form words of R62 with a handle that is not valid (R66): DECODE all the same. -/
theorem test_invalid_handle_words :
    [0x00000004#32, 0x00000104#32, 0x00004004#32, 0x00004704#32, 0x00004A04#32, 0x00004F04#32,
      0x00008004#32, 0x0000C104#32, 0x0000FF04#32].map decodeCmd =
    [.command (.decode 0x00#8), .command (.decode 0x01#8), .command (.decode 0x40#8),
      .command (.decode 0x47#8), .command (.decode 0x4A#8), .command (.decode 0x4F#8),
      .command (.decode 0x80#8), .command (.decode 0xC1#8), .command (.decode 0xFF#8)] := by
  decide

/-! ## Registry (spec/40_registry_dispatch.md) -/

/-- R80, spec/95_test_vectors.md table 2.1. -/
theorem test_hasAlpha :
    [0x0001#32, 0x0101#32, 0x0201#32, 0x0301#32, 0x0401#32, 0x0501#32, 0x0601#32, 0x0701#32, 0x0801#32, 0x0901#32].map answerY0 =
    [some 0#32, some 0#32, some 1#32, some 1#32, some 1#32, some 0#32, some 1#32, some 0#32, some 0#32, some 0#32] := by
  decide

/-- R81, spec/95_test_vectors.md table 2.1. -/
theorem test_byteWidth :
    [0x0002#32, 0x0102#32, 0x0202#32, 0x0302#32, 0x0402#32, 0x0502#32, 0x0602#32, 0x0702#32, 0x0802#32, 0x0902#32].map answerY0 =
    [some 0#32, some 2#32, some 2#32, some 3#32, some 3#32, some 3#32, some 4#32, some 1#32, some 0#32, some 1#32] := by
  decide

/-- R82, spec/95_test_vectors.md table 2.2, REP = 0. -/
theorem test_lookup_rep0 :
    [0x0003#32, 0x0103#32, 0x0203#32, 0x0303#32, 0x0403#32, 0x0503#32, 0x0603#32, 0x0703#32, 0x0803#32, 0x0903#32].map answerY0 =
    [some 0x00#32, some 0x41#32, some 0x42#32, some 0x43#32, some 0x44#32, some 0x45#32, some 0x46#32, some 0x00#32, some 0x48#32, some 0x49#32] := by
  decide

/-- R82, spec/95_test_vectors.md table 2.2, REP = 1. -/
theorem test_lookup_rep1 :
    [0x1003#32, 0x1103#32, 0x1203#32, 0x1303#32, 0x1403#32, 0x1503#32, 0x1603#32, 0x1703#32, 0x1803#32, 0x1903#32].map answerY0 =
    [some 0x00#32, some 0x51#32, some 0x52#32, some 0x53#32, some 0x54#32, some 0x55#32, some 0x56#32, some 0x00#32, some 0x58#32, some 0x59#32] := by
  decide

/-- R82, spec/95_test_vectors.md table 2.2, REP = 2. -/
theorem test_lookup_rep2 :
    [0x2003#32, 0x2103#32, 0x2203#32, 0x2303#32, 0x2403#32, 0x2503#32, 0x2603#32, 0x2703#32, 0x2803#32, 0x2903#32].map answerY0 =
    [some 0x00#32, some 0x61#32, some 0x62#32, some 0x63#32, some 0x64#32, some 0x65#32, some 0x66#32, some 0x00#32, some 0x68#32, some 0x69#32] := by
  decide

/-- R82, spec/95_test_vectors.md table 2.2, REP = 3. -/
theorem test_lookup_rep3 :
    [0x3003#32, 0x3103#32, 0x3203#32, 0x3303#32, 0x3403#32, 0x3503#32, 0x3603#32, 0x3703#32, 0x3803#32, 0x3903#32].map answerY0 =
    [some 0x00#32, some 0x71#32, some 0x72#32, some 0x73#32, some 0x74#32, some 0x75#32, some 0x76#32, some 0x00#32, some 0x78#32, some 0x79#32] := by
  decide

/-! ## One request for each row (spec/41_decode.md to spec/44_blend888.md) -/

/-- R151, the examples of its rule and of spec/95_test_vectors.md. -/
theorem test_cvtRgbTo565 :
    reply [] { cmd := 0x00000010#32, a := 0x0012ABFF#32 } =
      some { status := some 0x00#8, y0 := some 0x0000155F#32 } ∧
    reply [] { cmd := 0x00000010#32, a := 0xFF808080#32 } =
      some { status := some 0x00#8, y0 := some 0x00008410#32 } := by
  decide

/-- R152, the examples of its rule and of spec/95_test_vectors.md. -/
theorem test_cvt565ToRgb :
    reply [] { cmd := 0x00000011#32, a := 0x0000F81F#32 } =
      some { status := some 0x00#8, yr := some 0xF8#8, yg := some 0x00#8, yb := some 0xF8#8 } ∧
    reply [] { cmd := 0x00000011#32, a := 0xABCD1234#32 } =
      some { status := some 0x00#8, yr := some 0x10#8, yg := some 0x44#8, yb := some 0xA0#8 } := by
  decide

/-- R153, the examples of its rule and of spec/95_test_vectors.md. -/
theorem test_cvt888To565 :
    reply [] { cmd := 0x00000012#32, a := 0x0012ABFF#32 } =
      some { status := some 0x00#8, y0 := some 0x0000155F#32 } ∧
    reply [] { cmd := 0x00000012#32, a := 0x00F8FCF8#32 } =
      some { status := some 0x00#8, y0 := some 0x0000FFFF#32 } := by
  decide

/-- R154, the examples of its rule and of spec/95_test_vectors.md. -/
theorem test_cvt565To888 :
    reply [] { cmd := 0x00000013#32, a := 0x00008410#32 } =
      some { status := some 0x00#8, y0 := some 0x00808080#32 } ∧
    reply [] { cmd := 0x00000013#32, a := 0x000007E0#32 } =
      some { status := some 0x00#8, y0 := some 0x0000FC00#32 } := by
  decide

/-- R155, the examples of its rule and of spec/95_test_vectors.md. -/
theorem test_cvt8888To565A8 :
    reply [] { cmd := 0x00000014#32, a := 0x80FF8040#32 } =
      some { status := some 0x00#8, y0 := some 0x0000FC08#32, ya := some 0x80#8 } ∧
    reply [] { cmd := 0x00000014#32, a := 0xFFFFFFFF#32 } =
      some { status := some 0x00#8, y0 := some 0x0000FFFF#32, ya := some 0xFF#8 } := by
  decide

/-- R156, the examples of its rule and of spec/95_test_vectors.md. -/
theorem test_cvt8888To565A5 :
    reply [] { cmd := 0x00000015#32, a := 0x80FF8040#32 } =
      some { status := some 0x00#8, y0 := some 0x0000FC08#32, ya := some 0x10#8 } ∧
    reply [] { cmd := 0x00000015#32, a := 0x08000000#32 } =
      some { status := some 0x00#8, y0 := some 0x00000000#32, ya := some 0x01#8 } := by
  decide

/-- R157, the examples of its rule and of spec/95_test_vectors.md. -/
theorem test_cvt8565To8888 :
    reply [] { cmd := 0x00000016#32, a := 0x0080F81F#32 } =
      some { status := some 0x00#8, y0 := some 0x80F800F8#32 } ∧
    reply [] { cmd := 0x00000016#32, a := 0xAB000000#32 } =
      some { status := some 0x00#8, y0 := some 0x00000000#32 } := by
  decide

/-- R158, the examples of its rule and of spec/95_test_vectors.md. -/
theorem test_cvtGrayTo565 :
    reply [] { cmd := 0x00000017#32, a := 0x0000009C#32 } =
      some { status := some 0x00#8, y0 := some 0x00009CF3#32 } ∧
    reply [] { cmd := 0x00000017#32, a := 0x00000123#32 } =
      some { status := some 0x00#8, y0 := some 0x00002104#32 } := by
  decide

/-- R159, the examples of its rule and of spec/95_test_vectors.md. -/
theorem test_cvtGrayTo888 :
    reply [] { cmd := 0x00000018#32, a := 0x0000009C#32 } =
      some { status := some 0x00#8, y0 := some 0x009C9C9C#32 } ∧
    reply [] { cmd := 0x00000018#32, a := 0x000000FF#32 } =
      some { status := some 0x00#8, y0 := some 0x00FFFFFF#32 } := by
  decide

/-- R162, the examples of its rule and of spec/95_test_vectors.md. -/
theorem test_cvtMonoTo565 :
    reply [] { cmd := 0x0000001B#32, a := 0x00000001#32 } =
      some { status := some 0x00#8, y0 := some 0x0000FFFF#32 } ∧
    reply [] { cmd := 0x0000001B#32, a := 0xFFFFFFFE#32 } =
      some { status := some 0x00#8, y0 := some 0x00000000#32 } := by
  decide

/-- R163, the examples of its rule and of spec/95_test_vectors.md. -/
theorem test_cvtMonoTo888 :
    reply [] { cmd := 0x0000001C#32, a := 0x00000003#32 } =
      some { status := some 0x00#8, y0 := some 0x00FFFFFF#32 } ∧
    reply [] { cmd := 0x0000001C#32, a := 0x00000001#32 } =
      some { status := some 0x00#8, y0 := some 0x00FFFFFF#32 } := by
  decide

/-- R182, the examples of its rule and of spec/95_test_vectors.md. -/
theorem test_blend565 :
    reply [] { cmd := 0x00000020#32, a := 0x0000F800#32, b := 0x0000001F#32, alpha := 0x10#8 } =
      some { status := some 0x00#8, y0 := some 0x0000780F#32 } ∧
    reply [] { cmd := 0x00000020#32, a := 0x00000001#32, alpha := 0x1F#8 } =
      some { status := some 0x00#8, y0 := some 0x00000000#32 } := by
  decide

/-- R183, the examples of its rule and of spec/95_test_vectors.md. -/
theorem test_blend565A8 :
    reply [] { cmd := 0x00000021#32, a := 0x0000FFFF#32, alpha := 0x80#8 } =
      some { status := some 0x00#8, y0 := some 0x00007BEF#32 } ∧
    reply [] { cmd := 0x00000021#32, a := 0x0000FFFF#32, alpha := 0xFF#8 } =
      some { status := some 0x00#8, y0 := some 0x0000F7BE#32 } := by
  decide

/-- R184, the examples of its rule and of spec/95_test_vectors.md. -/
theorem test_prep565 :
    reply [] { cmd := 0x00000022#32, a := 0x0000FFFF#32 } =
      some { status := some 0x00#8, y0 := some 0x07E0F81F#32 } ∧
    reply [] { cmd := 0x00000022#32, a := 0xABCDFFFF#32 } =
      some { status := some 0x00#8, y0 := some 0x07E0F81F#32 } := by
  decide

/-- R185, the examples of its rule and of spec/95_test_vectors.md. -/
theorem test_blend565p :
    reply [] { cmd := 0x00000023#32, a := 0x0000F800#32, b := 0x0000001F#32, alpha := 0x10#8 } =
      some { status := some 0x00#8, y0 := some 0x0000780F#32 } ∧
    reply [] { cmd := 0x00000023#32, a := 0x07E0F81F#32, alpha := 0x1F#8 } =
      some { status := some 0x00#8, y0 := some 0x0000F7BE#32 } := by
  decide

/-- R186, the examples of its rule and of spec/95_test_vectors.md. -/
theorem test_blend565pA8 :
    reply [] { cmd := 0x00000024#32, a := 0x07E0F81F#32, alpha := 0xFF#8 } =
      some { status := some 0x00#8, y0 := some 0x0000F7BE#32 } ∧
    reply [] { cmd := 0x00000024#32, a := 0x07E0F81F#32 } =
      some { status := some 0x00#8, y0 := some 0x00000000#32 } := by
  decide

/-- R202, the examples of its rule and of spec/95_test_vectors.md. -/
theorem test_blend888 :
    reply [] { cmd := 0x00000028#32, a := 0x00FF0000#32, b := 0x000000FF#32, alpha := 0x80#8 } =
      some { status := some 0x00#8, y0 := some 0x007F007F#32 } ∧
    reply [] { cmd := 0x00000028#32, a := 0x0000FF00#32, b := 0x00FF00FF#32, alpha := 0xC8#8 } =
      some { status := some 0x00#8, y0 := some 0x00C737C7#32 } := by
  decide

/-- R203, the examples of its rule and of spec/95_test_vectors.md. -/
theorem test_prep888 :
    reply [] { cmd := 0x00000029#32, a := 0x00123456#32 } =
      some { status := some 0x00#8, y0 := some 0x00120056#32, y1 := some 0x00003400#32 } ∧
    reply [] { cmd := 0x00000029#32, a := 0xFFFFFFFF#32 } =
      some { status := some 0x00#8, y0 := some 0x00FF00FF#32, y1 := some 0x0000FF00#32 } := by
  decide

/-- R204, the examples of its rule and of spec/95_test_vectors.md. -/
theorem test_blend888p :
    reply [] { cmd := 0x0000002A#32, a := 0x00FF0000#32, b := 0x000000FF#32, alpha := 0x80#8 } =
      some { status := some 0x00#8, y0 := some 0x007F007F#32 } ∧
    reply [] { cmd := 0x0000002A#32, a := 0x00120056#32, c := 0x00003400#32, b := 0x00ABCDEF#32, alpha := 0xFF#8 } =
      some { status := some 0x00#8, y0 := some 0x00AACCEE#32 } := by
  decide

/-- R205, the examples of its rule and of spec/95_test_vectors.md. -/
theorem test_blendargb :
    reply [] { cmd := 0x0000002B#32, a := 0x00FF8040#32, alpha := 0x80#8 } =
      some { status := some 0x00#8, yr := some 0x7F#8, yg := some 0x40#8, yb := some 0x20#8 } ∧
    reply [] { cmd := 0x0000002B#32, a := 0xAA123456#32, b := 0x55ABCDEF#32 } =
      some { status := some 0x00#8, yr := some 0x12#8, yg := some 0x34#8, yb := some 0x56#8 } := by
  decide

/-- R110, the examples of its rule and of spec/95_test_vectors.md. -/
theorem test_decode565A5Rgb565 :
    reply [(0x1000, 0x10#8), (0x1001, 0x84#8)] { cmd := 0x00004104#32, addr := 0x1000, adef := 0x1F#8 } =
      some { status := some 0x00#8, y0 := some 0x00008410#32, ya := some 0x1F#8 } ∧
    reply [(0x2000, 0xA5#8), (0x2001, 0xA5#8)] { cmd := 0x00004104#32, addr := 0x2000, adef := 0x07#8, bitix := 0x01#8 } =
      some { status := some 0x00#8, y0 := some 0x0000A5A5#32, ya := some 0x07#8 } := by
  decide

/-- R111, the examples of its rule and of spec/95_test_vectors.md. -/
theorem test_decode565A5Argb4444 :
    reply [(0x1000, 0x3C#8), (0x1001, 0x8F#8)] { cmd := 0x00004204#32, addr := 0x1000 } =
      some { status := some 0x00#8, y0 := some 0x0000F999#32, ya := some 0x11#8 } ∧
    reply [(0x2000, 0xA5#8), (0x2001, 0xA5#8)] { cmd := 0x00004204#32, addr := 0x2000, adef := 0x07#8, bitix := 0x01#8 } =
      some { status := some 0x00#8, y0 := some 0x0000554A#32, ya := some 0x15#8 } := by
  decide

/-- R112, the examples of its rule and of spec/95_test_vectors.md. -/
theorem test_decode565A5Argb6666 :
    reply [(0x1000, 0x01#8), (0x1001, 0xF4#8), (0x1002, 0xAB#8)] { cmd := 0x00004304#32, addr := 0x1000 } =
      some { status := some 0x00#8, y0 := some 0x0000FA00#32, ya := some 0x15#8 } ∧
    reply [(0x2000, 0xA5#8), (0x2001, 0xA5#8), (0x2002, 0xA5#8)] { cmd := 0x00004304#32, addr := 0x2000, adef := 0x07#8, bitix := 0x01#8 } =
      some { status := some 0x00#8, y0 := some 0x00006AD2#32, ya := some 0x14#8 } := by
  decide

/-- R113, the examples of its rule and of spec/95_test_vectors.md. -/
theorem test_decode565A5Argb8565 :
    reply [(0x1000, 0x1F#8), (0x1001, 0xF8#8), (0x1002, 0x80#8)] { cmd := 0x00004404#32, addr := 0x1000 } =
      some { status := some 0x00#8, y0 := some 0x0000F81F#32, ya := some 0x10#8 } ∧
    reply [(0x2000, 0xA5#8), (0x2001, 0xA5#8), (0x2002, 0xA5#8)] { cmd := 0x00004404#32, addr := 0x2000, adef := 0x07#8, bitix := 0x01#8 } =
      some { status := some 0x00#8, y0 := some 0x0000A5A5#32, ya := some 0x14#8 } := by
  decide

/-- R114, the examples of its rule and of spec/95_test_vectors.md. -/
theorem test_decode565A5Rgb888 :
    reply [(0x1000, 0xFF#8), (0x1001, 0xAB#8), (0x1002, 0x12#8)] { cmd := 0x00004504#32, addr := 0x1000, adef := 0x1F#8 } =
      some { status := some 0x00#8, y0 := some 0x0000155F#32, ya := some 0x1F#8 } ∧
    reply [(0x2000, 0xA5#8), (0x2001, 0xA5#8), (0x2002, 0xA5#8)] { cmd := 0x00004504#32, addr := 0x2000, adef := 0x07#8, bitix := 0x01#8 } =
      some { status := some 0x00#8, y0 := some 0x0000A534#32, ya := some 0x07#8 } := by
  decide

/-- R115, the examples of its rule and of spec/95_test_vectors.md. -/
theorem test_decode565A5Argb8888 :
    reply [(0x1000, 0x40#8), (0x1001, 0x80#8), (0x1002, 0xFF#8), (0x1003, 0x80#8)] { cmd := 0x00004604#32, addr := 0x1000 } =
      some { status := some 0x00#8, y0 := some 0x0000FC08#32, ya := some 0x10#8 } ∧
    reply [(0x2000, 0xA5#8), (0x2001, 0xA5#8), (0x2002, 0xA5#8), (0x2003, 0xA5#8)] { cmd := 0x00004604#32, addr := 0x2000, adef := 0x07#8, bitix := 0x01#8 } =
      some { status := some 0x00#8, y0 := some 0x0000A534#32, ya := some 0x14#8 } := by
  decide

/-- R116, the examples of its rule and of spec/95_test_vectors.md. -/
theorem test_decode565A5Mono :
    reply [(0x1000, 0x80#8)] { cmd := 0x00004804#32, addr := 0x1000 } =
      some { status := some 0x00#8, y0 := some 0x0000FFFF#32, ya := some 0x00#8 } ∧
    reply [(0x2000, 0xA5#8)] { cmd := 0x00004804#32, addr := 0x2000, adef := 0x07#8, bitix := 0x01#8 } =
      some { status := some 0x00#8, y0 := some 0x00000000#32, ya := some 0x07#8 } := by
  decide

/-- R117, the examples of its rule and of spec/95_test_vectors.md. -/
theorem test_decode565A5Grayscale :
    reply [(0x1000, 0x9C#8)] { cmd := 0x00004904#32, addr := 0x1000, adef := 0x1F#8 } =
      some { status := some 0x00#8, y0 := some 0x00009CF3#32, ya := some 0x1F#8 } ∧
    reply [(0x2000, 0xA5#8)] { cmd := 0x00004904#32, addr := 0x2000, adef := 0x07#8, bitix := 0x01#8 } =
      some { status := some 0x00#8, y0 := some 0x0000A534#32, ya := some 0x07#8 } := by
  decide

/-- R118, the examples of its rule and of spec/95_test_vectors.md. -/
theorem test_decode565A8Rgb565 :
    reply [(0x1000, 0x10#8), (0x1001, 0x84#8)] { cmd := 0x00005104#32, addr := 0x1000, adef := 0xFF#8 } =
      some { status := some 0x00#8, y0 := some 0x00008410#32, ya := some 0xFF#8 } ∧
    reply [(0x2000, 0xA5#8), (0x2001, 0xA5#8)] { cmd := 0x00005104#32, addr := 0x2000, adef := 0x07#8, bitix := 0x01#8 } =
      some { status := some 0x00#8, y0 := some 0x0000A5A5#32, ya := some 0x07#8 } := by
  decide

/-- R119, the examples of its rule and of spec/95_test_vectors.md. -/
theorem test_decode565A8Argb4444 :
    reply [(0x1000, 0x3C#8), (0x1001, 0x8F#8)] { cmd := 0x00005204#32, addr := 0x1000 } =
      some { status := some 0x00#8, y0 := some 0x0000F999#32, ya := some 0x88#8 } ∧
    reply [(0x2000, 0xA5#8), (0x2001, 0xA5#8)] { cmd := 0x00005204#32, addr := 0x2000, adef := 0x07#8, bitix := 0x01#8 } =
      some { status := some 0x00#8, y0 := some 0x0000554A#32, ya := some 0xAA#8 } := by
  decide

/-- R120, the examples of its rule and of spec/95_test_vectors.md. -/
theorem test_decode565A8Argb6666 :
    reply [(0x1000, 0x01#8), (0x1001, 0xF4#8), (0x1002, 0xAB#8)] { cmd := 0x00005304#32, addr := 0x1000 } =
      some { status := some 0x00#8, y0 := some 0x0000FA00#32, ya := some 0xAA#8 } ∧
    reply [(0x2000, 0xA5#8), (0x2001, 0xA5#8), (0x2002, 0xA5#8)] { cmd := 0x00005304#32, addr := 0x2000, adef := 0x07#8, bitix := 0x01#8 } =
      some { status := some 0x00#8, y0 := some 0x00006AD2#32, ya := some 0xA6#8 } := by
  decide

/-- R121, the examples of its rule and of spec/95_test_vectors.md. -/
theorem test_decode565A8Argb8565 :
    reply [(0x1000, 0x1F#8), (0x1001, 0xF8#8), (0x1002, 0x80#8)] { cmd := 0x00005404#32, addr := 0x1000 } =
      some { status := some 0x00#8, y0 := some 0x0000F81F#32, ya := some 0x80#8 } ∧
    reply [(0x2000, 0xA5#8), (0x2001, 0xA5#8), (0x2002, 0xA5#8)] { cmd := 0x00005404#32, addr := 0x2000, adef := 0x07#8, bitix := 0x01#8 } =
      some { status := some 0x00#8, y0 := some 0x0000A5A5#32, ya := some 0xA5#8 } := by
  decide

/-- R122, the examples of its rule and of spec/95_test_vectors.md. -/
theorem test_decode565A8Rgb888 :
    reply [(0x1000, 0xFF#8), (0x1001, 0xAB#8), (0x1002, 0x12#8)] { cmd := 0x00005504#32, addr := 0x1000, adef := 0xFF#8 } =
      some { status := some 0x00#8, y0 := some 0x0000155F#32, ya := some 0xFF#8 } ∧
    reply [(0x2000, 0xA5#8), (0x2001, 0xA5#8), (0x2002, 0xA5#8)] { cmd := 0x00005504#32, addr := 0x2000, adef := 0x07#8, bitix := 0x01#8 } =
      some { status := some 0x00#8, y0 := some 0x0000A534#32, ya := some 0x07#8 } := by
  decide

/-- R123, the examples of its rule and of spec/95_test_vectors.md. -/
theorem test_decode565A8Argb8888 :
    reply [(0x1000, 0x40#8), (0x1001, 0x80#8), (0x1002, 0xFF#8), (0x1003, 0x80#8)] { cmd := 0x00005604#32, addr := 0x1000 } =
      some { status := some 0x00#8, y0 := some 0x0000FC08#32, ya := some 0x80#8 } ∧
    reply [(0x2000, 0xA5#8), (0x2001, 0xA5#8), (0x2002, 0xA5#8), (0x2003, 0xA5#8)] { cmd := 0x00005604#32, addr := 0x2000, adef := 0x07#8, bitix := 0x01#8 } =
      some { status := some 0x00#8, y0 := some 0x0000A534#32, ya := some 0xA5#8 } := by
  decide

/-- R124, the examples of its rule and of spec/95_test_vectors.md. -/
theorem test_decode565A8Mono :
    reply [(0x1000, 0x01#8)] { cmd := 0x00005804#32, addr := 0x1000, adef := 0xFF#8, bitix := 0x07#8 } =
      some { status := some 0x00#8, y0 := some 0x0000FFFF#32, ya := some 0xFF#8 } ∧
    reply [(0x2000, 0xA5#8)] { cmd := 0x00005804#32, addr := 0x2000, adef := 0x07#8, bitix := 0x01#8 } =
      some { status := some 0x00#8, y0 := some 0x00000000#32, ya := some 0x07#8 } := by
  decide

/-- R125, the examples of its rule and of spec/95_test_vectors.md. -/
theorem test_decode565A8Grayscale :
    reply [(0x1000, 0x9C#8)] { cmd := 0x00005904#32, addr := 0x1000, adef := 0xFF#8 } =
      some { status := some 0x00#8, y0 := some 0x00009CF3#32, ya := some 0xFF#8 } ∧
    reply [(0x2000, 0xA5#8)] { cmd := 0x00005904#32, addr := 0x2000, adef := 0x07#8, bitix := 0x01#8 } =
      some { status := some 0x00#8, y0 := some 0x0000A534#32, ya := some 0x07#8 } := by
  decide

/-- R126, the examples of its rule and of spec/95_test_vectors.md. -/
theorem test_decodeArgbRgb565 :
    reply [(0x1000, 0x10#8), (0x1001, 0x84#8)] { cmd := 0x00006104#32, addr := 0x1000, adef := 0xFF#8 } =
      some { status := some 0x00#8, ya := some 0xFF#8, yr := some 0x84#8, yg := some 0x82#8, yb := some 0x84#8 } ∧
    reply [(0x2000, 0xA5#8), (0x2001, 0xA5#8)] { cmd := 0x00006104#32, addr := 0x2000, adef := 0x07#8, bitix := 0x01#8 } =
      some { status := some 0x00#8, ya := some 0x07#8, yr := some 0xA5#8, yg := some 0xB6#8, yb := some 0x29#8 } := by
  decide

/-- R127, the examples of its rule and of spec/95_test_vectors.md. -/
theorem test_decodeArgbArgb4444 :
    reply [(0x1000, 0x3C#8), (0x1001, 0x8F#8)] { cmd := 0x00006204#32, addr := 0x1000 } =
      some { status := some 0x00#8, ya := some 0x88#8, yr := some 0xFF#8, yg := some 0x33#8, yb := some 0xCC#8 } ∧
    reply [(0x2000, 0xA5#8), (0x2001, 0xA5#8)] { cmd := 0x00006204#32, addr := 0x2000, adef := 0x07#8, bitix := 0x01#8 } =
      some { status := some 0x00#8, ya := some 0xAA#8, yr := some 0x55#8, yg := some 0xAA#8, yb := some 0x55#8 } := by
  decide

/-- R128, the examples of its rule and of spec/95_test_vectors.md. -/
theorem test_decodeArgbArgb6666 :
    reply [(0x1000, 0x01#8), (0x1001, 0xF4#8), (0x1002, 0xAB#8)] { cmd := 0x00006304#32, addr := 0x1000 } =
      some { status := some 0x00#8, ya := some 0xAA#8, yr := some 0xFF#8, yg := some 0x41#8, yb := some 0x04#8 } ∧
    reply [(0x2000, 0xA5#8), (0x2001, 0xA5#8), (0x2002, 0xA5#8)] { cmd := 0x00006304#32, addr := 0x2000, adef := 0x07#8, bitix := 0x01#8 } =
      some { status := some 0x00#8, ya := some 0xA6#8, yr := some 0x69#8, yg := some 0x59#8, yb := some 0x96#8 } := by
  decide

/-- R129, the examples of its rule and of spec/95_test_vectors.md. -/
theorem test_decodeArgbArgb8565 :
    reply [(0x1000, 0x1F#8), (0x1001, 0xF8#8), (0x1002, 0x80#8)] { cmd := 0x00006404#32, addr := 0x1000 } =
      some { status := some 0x00#8, ya := some 0x80#8, yr := some 0xFF#8, yg := some 0x00#8, yb := some 0xFF#8 } ∧
    reply [(0x2000, 0xA5#8), (0x2001, 0xA5#8), (0x2002, 0xA5#8)] { cmd := 0x00006404#32, addr := 0x2000, adef := 0x07#8, bitix := 0x01#8 } =
      some { status := some 0x00#8, ya := some 0xA5#8, yr := some 0xA5#8, yg := some 0xB6#8, yb := some 0x29#8 } := by
  decide

/-- R130, the examples of its rule and of spec/95_test_vectors.md. -/
theorem test_decodeArgbRgb888 :
    reply [(0x1000, 0xFF#8), (0x1001, 0xAB#8), (0x1002, 0x12#8)] { cmd := 0x00006504#32, addr := 0x1000, adef := 0xFF#8 } =
      some { status := some 0x00#8, ya := some 0xFF#8, yr := some 0x12#8, yg := some 0xAB#8, yb := some 0xFF#8 } ∧
    reply [(0x2000, 0xA5#8), (0x2001, 0xA5#8), (0x2002, 0xA5#8)] { cmd := 0x00006504#32, addr := 0x2000, adef := 0x07#8, bitix := 0x01#8 } =
      some { status := some 0x00#8, ya := some 0x07#8, yr := some 0xA5#8, yg := some 0xA5#8, yb := some 0xA5#8 } := by
  decide

/-- R131, the examples of its rule and of spec/95_test_vectors.md. -/
theorem test_decodeArgbArgb8888 :
    reply [(0x1000, 0x40#8), (0x1001, 0x80#8), (0x1002, 0xFF#8), (0x1003, 0x80#8)] { cmd := 0x00006604#32, addr := 0x1000 } =
      some { status := some 0x00#8, ya := some 0x80#8, yr := some 0xFF#8, yg := some 0x80#8, yb := some 0x40#8 } ∧
    reply [(0x2000, 0xA5#8), (0x2001, 0xA5#8), (0x2002, 0xA5#8), (0x2003, 0xA5#8)] { cmd := 0x00006604#32, addr := 0x2000, adef := 0x07#8, bitix := 0x01#8 } =
      some { status := some 0x00#8, ya := some 0xA5#8, yr := some 0xA5#8, yg := some 0xA5#8, yb := some 0xA5#8 } := by
  decide

/-- R132, the examples of its rule and of spec/95_test_vectors.md. -/
theorem test_decodeArgbMono :
    reply [(0x1000, 0x80#8)] { cmd := 0x00006804#32, addr := 0x1000 } =
      some { status := some 0x00#8, ya := some 0x00#8, yr := some 0xFF#8, yg := some 0xFF#8, yb := some 0xFF#8 } ∧
    reply [(0x2000, 0xA5#8)] { cmd := 0x00006804#32, addr := 0x2000, adef := 0x07#8, bitix := 0x01#8 } =
      some { status := some 0x00#8, ya := some 0x07#8, yr := some 0x00#8, yg := some 0x00#8, yb := some 0x00#8 } := by
  decide

/-- R133, the examples of its rule and of spec/95_test_vectors.md. -/
theorem test_decodeArgbGrayscale :
    reply [(0x1000, 0x9C#8)] { cmd := 0x00006904#32, addr := 0x1000 } =
      some { status := some 0x00#8, ya := some 0x00#8, yr := some 0x9C#8, yg := some 0x9C#8, yb := some 0x9C#8 } ∧
    reply [(0x2000, 0xA5#8)] { cmd := 0x00006904#32, addr := 0x2000, adef := 0x07#8, bitix := 0x01#8 } =
      some { status := some 0x00#8, ya := some 0x07#8, yr := some 0xA5#8, yg := some 0xA5#8, yb := some 0xA5#8 } := by
  decide

/-- R134, the examples of its rule and of spec/95_test_vectors.md. -/
theorem test_decodePacked32Rgb565 :
    reply [(0x1000, 0x10#8), (0x1001, 0x84#8)] { cmd := 0x00007104#32, addr := 0x1000, adef := 0xFF#8 } =
      some { status := some 0x00#8, y0 := some 0xFF848284#32 } ∧
    reply [(0x2000, 0xA5#8), (0x2001, 0xA5#8)] { cmd := 0x00007104#32, addr := 0x2000, adef := 0x07#8, bitix := 0x01#8 } =
      some { status := some 0x00#8, y0 := some 0x07A5B629#32 } := by
  decide

/-- R135, the examples of its rule and of spec/95_test_vectors.md. -/
theorem test_decodePacked32Argb4444 :
    reply [(0x1000, 0x3C#8), (0x1001, 0x8F#8)] { cmd := 0x00007204#32, addr := 0x1000 } =
      some { status := some 0x00#8, y0 := some 0x88FF33CC#32 } ∧
    reply [(0x2000, 0xA5#8), (0x2001, 0xA5#8)] { cmd := 0x00007204#32, addr := 0x2000, adef := 0x07#8, bitix := 0x01#8 } =
      some { status := some 0x00#8, y0 := some 0xAA55AA55#32 } := by
  decide

/-- R136, the examples of its rule and of spec/95_test_vectors.md. -/
theorem test_decodePacked32Argb6666 :
    reply [(0x1000, 0x01#8), (0x1001, 0xF4#8), (0x1002, 0xAB#8)] { cmd := 0x00007304#32, addr := 0x1000 } =
      some { status := some 0x00#8, y0 := some 0xAAFF4104#32 } ∧
    reply [(0x2000, 0xA5#8), (0x2001, 0xA5#8), (0x2002, 0xA5#8)] { cmd := 0x00007304#32, addr := 0x2000, adef := 0x07#8, bitix := 0x01#8 } =
      some { status := some 0x00#8, y0 := some 0xA6695996#32 } := by
  decide

/-- R137, the examples of its rule and of spec/95_test_vectors.md. -/
theorem test_decodePacked32Argb8565 :
    reply [(0x1000, 0x1F#8), (0x1001, 0xF8#8), (0x1002, 0x80#8)] { cmd := 0x00007404#32, addr := 0x1000 } =
      some { status := some 0x00#8, y0 := some 0x80FF00FF#32 } ∧
    reply [(0x2000, 0xA5#8), (0x2001, 0xA5#8), (0x2002, 0xA5#8)] { cmd := 0x00007404#32, addr := 0x2000, adef := 0x07#8, bitix := 0x01#8 } =
      some { status := some 0x00#8, y0 := some 0xA5A5B629#32 } := by
  decide

/-- R138, the examples of its rule and of spec/95_test_vectors.md. -/
theorem test_decodePacked32Rgb888 :
    reply [(0x1000, 0xFF#8), (0x1001, 0xAB#8), (0x1002, 0x12#8)] { cmd := 0x00007504#32, addr := 0x1000 } =
      some { status := some 0x00#8, y0 := some 0xFF12ABFF#32 } ∧
    reply [(0x2000, 0xA5#8), (0x2001, 0xA5#8), (0x2002, 0xA5#8)] { cmd := 0x00007504#32, addr := 0x2000, adef := 0x07#8, bitix := 0x01#8 } =
      some { status := some 0x00#8, y0 := some 0xFFA5A5A5#32 } := by
  decide

/-- R139, the examples of its rule and of spec/95_test_vectors.md. -/
theorem test_decodePacked32Argb8888 :
    reply [(0x1000, 0x40#8), (0x1001, 0x80#8), (0x1002, 0xFF#8), (0x1003, 0x80#8)] { cmd := 0x00007604#32, addr := 0x1000 } =
      some { status := some 0x00#8, y0 := some 0x80FF8040#32 } ∧
    reply [(0x2000, 0xA5#8), (0x2001, 0xA5#8), (0x2002, 0xA5#8), (0x2003, 0xA5#8)] { cmd := 0x00007604#32, addr := 0x2000, adef := 0x07#8, bitix := 0x01#8 } =
      some { status := some 0x00#8, y0 := some 0xA5A5A5A5#32 } := by
  decide

/-- R140, the examples of its rule and of spec/95_test_vectors.md. -/
theorem test_decodePacked32Mono :
    reply [(0x1000, 0x80#8)] { cmd := 0x00007804#32, addr := 0x1000, adef := 0xFF#8 } =
      some { status := some 0x00#8, y0 := some 0xFFFFFFFF#32 } ∧
    reply [(0x2000, 0xA5#8)] { cmd := 0x00007804#32, addr := 0x2000, adef := 0x07#8, bitix := 0x01#8 } =
      some { status := some 0x00#8, y0 := some 0x07000000#32 } := by
  decide

/-- R141, the examples of its rule and of spec/95_test_vectors.md. -/
theorem test_decodePacked32Grayscale :
    reply [(0x1000, 0x9C#8)] { cmd := 0x00007904#32, addr := 0x1000, adef := 0xFF#8 } =
      some { status := some 0x00#8, y0 := some 0xFF9C9C9C#32 } ∧
    reply [(0x2000, 0xA5#8)] { cmd := 0x00007904#32, addr := 0x2000, adef := 0x07#8, bitix := 0x01#8 } =
      some { status := some 0x00#8, y0 := some 0x07A5A5A5#32 } := by
  decide

/-! ## OPEN parameters -/

/-- R160: the parameter of the color alone, A[31:16] ignored. -/
theorem test_cvt565ToGray : (reply [] { cmd := 0x19#32, a := 0xFFFF8410#32 }).bind (·.y0) =
    some ((Config.grayFrom565 0x8410#16).zeroExtend 32) := rfl

/-- R161. -/
theorem test_cvt888ToGray : (reply [] { cmd := 0x1A#32, a := 0xFF123456#32 }).bind (·.y0) =
    some ((Config.grayFrom888 0x123456#24).zeroExtend 32) := rfl

/-- R164. -/
theorem test_cvt565ToMono : (reply [] { cmd := 0x1D#32, a := 0xFFFF#32 }).bind (·.y0) =
    some ((Config.monoFrom565 0xFFFF#16).zeroExtend 32) := rfl

/-- R165. -/
theorem test_cvt888ToMono : (reply [] { cmd := 0x1E#32 }).bind (·.y0) =
    some ((Config.monoFrom888 0x000000#24).zeroExtend 32) := rfl

/-! ## Faults and the halted state (spec/60_exceptions.md) -/

/-- spec/95_test_vectors.md 2.7 and 2.1, 2.2, 2.4: illegal words, R68 (a) to (e). -/
theorem test_illegal_words :
    [0x00000000#32, 0x00010020#32, 0x00000005#32, 0x0000001F#32, 0x00000025#32, 0x0000002C#32, 0x000000FF#32,
      0x00001020#32, 0x00000A02#32, 0x0000C003#32, 0x00014104#32, 0x00000A01#32, 0x00001001#32, 0x00000A03#32,
      0x00004003#32, 0x00000110#32].all (onlyStatus · 0x03#8) = true := by
  decide

/-- spec/95_test_vectors.md 2.7: handles that are not valid. -/
theorem test_null_decoder :
    [0x00000004#32, 0x00004004#32, 0x00004704#32, 0x00004A04#32, 0x0000C104#32, 0x00000104#32].all
      (onlyStatus · 0x05#8) = true := by
  decide

/-- Why a word is illegal: R228 steps 2, 3 and 4 in their order. -/
theorem test_illegal_reasons :
    decodeCmd 0x00014104#32 = .illegal .reservedBits ∧ decodeCmd 0x0000002C#32 = .illegal .reservedOpcode ∧
    decodeCmd 0x00001020#32 = .illegal .selector ∧ decodeCmd 0x00010000#32 = .illegal .reservedBits := by
  decide

/-- Program P4 of spec/95_test_vectors.md, step 3: a halted PFC answers HALTED, CAUSE unchanged. -/
theorem test_halted_answers_status_only :
    (after (step { halted with
      phase := .requested, req := { cmd := 0x20#32, a := 0xF800#32, b := 0x1F#32, alpha := 16#8 } })).map (·.rsp) = some { status := some 0x05#8 } := by
  decide

/-- R227: a request that would fault is answered HALTED while PFC is halted. -/
theorem test_halted_keeps_the_first_cause :
    (after (step { halted with phase := .requested, req := { cmd := 0 } })).map (·.status) = some 0x05#8 := by
  decide

/-- R250. -/
theorem test_reset_leaves_the_halted_state :
    (after (step { halted with program := [.reset] })).map (·.status) = some 0x00#8 ∧
    (after (step { halted with phase := .resetting })).map (·.status) = some 0x00#8 := by
  decide

/-- Program P6 of spec/95_test_vectors.md, step 2: DEBUG_ASSERT = 1 and BITIX = 9. -/
theorem test_debug_mono_raises_precondition :
    (after (answer { askedDebug { cmd := 0x6804#32, addr := 0x4000, bitix := 9#8 } with mem := [(0x4000, 0x80#8)] })).map
      (·.rsp) = some { status := some 0x07#8 } := by
  decide

/-- R228: PRECONDITION comes before a read that would be stuck. -/
theorem test_debug_mono_raises_before_the_read :
    (after (answer { askedDebug { cmd := 0x6804#32, bitix := 9#8 } with admitted := [] })).map (·.rsp) =
      some { status := some 0x07#8 } := by
  decide

/-- spec/95_test_vectors.md 2.5 and 2.6 with DEBUG_ASSERT = 1. -/
theorem test_debug_blends_raise_precondition :
    [{ cmd := 0x20#32, a := 0xF800#32, b := 0x1F#32, alpha := 32#8 }, { cmd := 0x24#32, a := 0x00010000#32, alpha := 5#8 },
      { cmd := 0x2A#32, a := 0x00000100#32 }, ({ cmd := 0x2A#32, c := 0x00000001#32 } : Request)].all
      (fun r => (after (answer (askedDebug r))).map (·.rsp) = some { status := some 0x07#8 }) = true := by
  decide

/-- spec/95_test_vectors.md 2.5: ALPHA = 32 with DEBUG_ASSERT = 0 is a 16-bit draw, and STATUS stays 0. -/
theorem test_blend565_draws :
    reply [] { cmd := 0x20#32, a := 0xF800#32, b := 0x1F#32, alpha := 32#8 } =
      some { status := some 0x00#8, y0 := some ((Config.anyValue 16 0).zeroExtend 32) } := rfl

/-- spec/95_test_vectors.md 2.5: bit 27 outside M565. -/
theorem test_blend565p_draws :
    reply [] { cmd := 0x23#32, a := 0x08000000#32, alpha := 5#8 } =
      some { status := some 0x00#8, y0 := some ((Config.anyValue 16 0).zeroExtend 32) } := rfl

/-- spec/95_test_vectors.md 2.6: bit 24 outside the red-blue mask. -/
theorem test_blend888p_draws :
    reply [] { cmd := 0x2A#32, a := 0x01000000#32, alpha := 5#8 } =
      some { status := some 0x00#8, y0 := some ((Config.anyValue 24 0).zeroExtend 32) } := rfl

/-- spec/95_test_vectors.md 2.3: Mono with BITIX = 8 draws the color and returns ADEF. -/
theorem test_decode565A5Mono_draws :
    reply [(0x4000, 0x80#8)] { cmd := 0x4804#32, addr := 0x4000, bitix := 8#8, adef := 0x1F#8 } =
      some { status := some 0x00#8, y0 := some ((Config.anyValue 16 0).zeroExtend 32), ya := some 0x1F#8 } := rfl

/-- R225: three independent draws for ARGB, and the next request draws afresh. -/
theorem test_decodeArgbMono_draws_three :
    (after (step (issued [] { cmd := 0x6804#32, bitix := 9#8, adef := 0xFF#8 }))).map (fun s => (s.rsp, s.draws)) =
      some ({ status := some 0x00#8, ya := some 0xFF#8, yr := some (Config.anyValue 8 0), yg := some (Config.anyValue 8 1),
              yb := some (Config.anyValue 8 2) }, 3) := rfl

/-! ## Pixel memory (spec/20_memory.md) -/

/-- spec/95_test_vectors.md 2.3: PIXEL_BYTE_ORDER = BE. -/
theorem test_byte_order_be :
    (after (answer { asked { cmd := 0x4104#32, addr := 0x1000, adef := 31#8 } with
      mem := [(0x1000, 0x10#8), (0x1001, 0x84#8)], params := { Config.specParams with byteOrder := .be } })).map (·.rsp) =
      some { status := some 0x00#8, y0 := some 0x00001084#32, ya := some 0x1F#8 } := by
  decide

/-- spec/95_test_vectors.md 2.3: the address wraps. -/
theorem test_address_wraps :
    reply [(0, 0xF8#8), (0xFFFFFFFF, 0x1F#8)] { cmd := 0x4104#32, addr := 0xFFFFFFFF, adef := 3#8 } =
      some { status := some 0x00#8, y0 := some 0x0000F81F#32, ya := some 0x03#8 } := by
  decide

/-- spec/95_test_vectors.md 2.3: a misaligned 3-byte pixel. -/
theorem test_misaligned_pixel :
    reply [(0x1001, 0x56#8), (0x1002, 0x34#8), (0x1003, 0x12#8)] { cmd := 0x7504#32, addr := 0x1001 } =
      some { status := some 0x00#8, y0 := some 0xFF123456#32 } := by
  decide

/-- spec/95_test_vectors.md 2.3: 0x5001 is not admitted; a one-byte pixel at 0x5000 is read. -/
theorem test_unadmitted_byte_is_stuck :
    isStuck (answer (oneByte { cmd := 0x4104#32, addr := 0x5000 })) = true ∧
    (after (answer (oneByte { cmd := 0x6904#32, addr := 0x5000 }))).map (·.rsp) =
      some { status := some 0x00#8, ya := some 0x00#8, yr := some 0x1F#8, yg := some 0x1F#8, yb := some 0x1F#8 } := by
  decide

/-- R48: a byte that a write races is read as its old or its new value. -/
theorem test_racing_byte_is_old_or_new :
    { State.reset with racing := [(0x10, 0xAA#8)] }.readByte 0x10 =
      some (if Config.raceTakesNew 0 0x10 0 then 0xAA#8 else 0x00#8) := rfl

/-- R20, R48: after PFC's answer the platform completes the racing write, and then the host receives the response. -/
theorem test_racing_write_is_done_after :
    (after (step { State.reset with phase := .responded, racing := [(0x10, 0xAA#8)] })).map
      (fun s => (s.mem, s.racing, s.phase, s.index)) = some ([(0x10, 0xAA#8)], [], .responded, 0) ∧
    (after (step { State.reset with phase := .responded, rsp := { status := some 0x00#8 } })).map
      (fun s => (s.responses, s.phase, s.index)) = some ([{ status := some 0x00#8 }], .between, 1) := by
  decide

/-- R20 a: the host issues the request, and PFC has not moved. -/
theorem test_host_issues_in_a_step_of_its_own :
    (after (step (host [] { cmd := 0x4004#32 }))).map (fun s => (s.phase, s.req.cmd, s.status, s.rsp, s.program)) =
      some (.requested, 0x00004004#32, 0x00#8, {}, []) := by
  decide

/-- R20 c: a platform write between transactions. -/
theorem test_platform_write :
    (after (step { State.reset with program := [.write 0x1004 0x10#8, .reset] })).map (fun s => (s.mem, s.program)) =
      some ([(0x1004, 0x10#8)], [.reset]) := by
  decide

/-- R30: the DISPATCH ROM has NULL for the codes 10 to 15, 0 and 7. -/
theorem test_dispatchRom :
    [0#4, 7#4, 8#4, 9#4, 10#4, 15#4].map (dispatchRom .toArgb) = [0x00#8, 0x00#8, 0x68#8, 0x69#8, 0x00#8, 0x00#8] := by
  decide

/-- A write of what an unlisted byte reads as removes the entry. -/
theorem test_memory_is_canonical :
    Memory.writeByte [(1, 0x11#8), (5, 0x55#8)] 5 0x00#8 = [(1, 0x11#8)] ∧
    Memory.writeByte [(1, 0x11#8), (5, 0x55#8)] 3 0x33#8 = [(1, 0x11#8), (3, 0x33#8), (5, 0x55#8)] ∧
    Memory.wf [(1, 0x11#8), (5, 0x55#8)] = true ∧ Memory.wf [(5, 0x55#8), (1, 0x11#8)] = false ∧
    Memory.wf [(1, 0x00#8)] = false := by
  decide

/-! ## Assembler syntax (R71, R72) -/

theorem test_assembler_examples :
    assembleLine? "HASALPHA ARGB4444" = some { cmd := 0x00000201#32 } ∧
    assembleLine? "LOOKUP RGB565, ARGB" = some { cmd := 0x00002103#32 } ∧
    assembleLine? "DECODE 0x61, ADDR=0x1000, ADEF=0xFF" = some { cmd := 0x00006104#32, addr := 0x1000, adef := 0xFF#8 } ∧
    assembleLine? "BLEND565 A=0xF800, B=0x001F, ALPHA=16" =
      some { cmd := 0x00000020#32, a := 0xF800#32, b := 0x001F#32, alpha := 16#8 } := by
  decide

theorem test_assembler_aliases :
    assembleLine? "DECODE.ARGB.RGB565 ADDR=0x1000" = assembleLine? "DECODE 0x61, ADDR=0x1000" ∧
    assembleLine? "DECODE.ARGB.Indexed ADDR=0x1000" = none ∧ aliasNames.length = 32 := by
  decide

/-! ## Witnesses: a concrete state and operands for the hypotheses of each obligation -/

theorem witness_DecodeOfEncodeIsTheInstruction :
    (Instr.decode 0x40#8).wellFormed = true ∧ (Instr.lookup .grayscale .toPacked32).wellFormed = true := by
  decide

theorem witness_CommandWordIsItsEncoding :
    decodeCmd 0x0000FF04#32 = .command (.decode 0xFF#8) ∧ decodeCmd 0x00003903#32 = .command (.lookup .grayscale .toPacked32) := by
  decide

/-- R68 (a) and (b) at the ends of their ranges. -/
theorem witness_illegalWord_reserved :
    (∀ w ∈ [0x00010020, 0x80000004, 0x00000000, 0x00000005, 0x0000000F], illegalWord (BitVec.ofNat 32 w)) ∧
    (∀ w ∈ [0x0000001F, 0x00000025, 0x00000027, 0x0000002C, 0x000000FF], illegalWord (BitVec.ofNat 32 w)) := by
  unfold illegalWord reservedOpc
  exact ⟨by decide, by decide⟩

/-- R68 (c), (d) and (e) at the ends of their ranges. -/
theorem witness_illegalWord_selector :
    (∀ w ∈ [0x00000A01, 0x00001002, 0x00000A03, 0x00004003, 0x00000110, 0x0000802B], illegalWord (BitVec.ofNat 32 w)) ∧
    (∀ w ∈ [0x00000901, 0x00000902, 0x00003903, 0x0000FF04, 0x00000010, 0x0000002B], ¬ illegalWord (BitVec.ofNat 32 w)) := by
  unfold illegalWord reservedOpc
  exact ⟨by decide, by decide⟩

theorem witness_IllegalWordsRaiseIllegalCommand :
    (asked { cmd := 0x00010020#32 }).Ready ∧ illegalWord 0x00010020#32 ∧
    (∀ w ∈ [0x00000004, 0x00004004, 0x00004704, 0x00004A04], rsvOf (BitVec.ofNat 32 w) = 0 ∧ opcOf (BitVec.ofNat 32 w) = 0x04 ∧
      ¬ validHandleNumber (selOf (BitVec.ofNat 32 w))) := by
  unfold illegalWord reservedOpc validHandleNumber
  exact ⟨rfl, by decide, by decide⟩

theorem witness_StepPerformsTheDecodedRequest :
    (issued [] { cmd := 0x6104#32 }).phase = .requested ∧
    decodeCmd (issued [] { cmd := 0x6104#32 }).req.cmd = .command .decodeArgbRgb565 ∧
    isStuck (step { issued [] { cmd := 0x6104#32 } with admitted := [] }) = true := by
  decide

theorem witness_StepOnIllegalWordEntersTheFault :
    (issued [] {}).phase = .requested ∧ (issued [] {}).Ready ∧ illegalWord (issued [] {}).req.cmd ∧
    (issued [] {}).racing = [] := by
  unfold illegalWord reservedOpc
  decide

/-- A request with a racing write, and PFC's answer to it. -/
theorem witness_PerformedRequestAdvancesTheIndexByOne :
    let s := { State.reset with program := [.request { cmd := 0x10#32 } [(0x10, 0xAA#8)], .reset] }
    s.phase = .between ∧ s.program = .request { cmd := 0x10#32 } [(0x10, 0xAA#8)] :: [.reset] ∧
    (after (answer { s with phase := .requested, req := { cmd := 0x10#32 }, rsp := {}, racing := [(0x10, 0xAA#8)],
                            program := [.reset] })).isSome = true := by
  decide

theorem witness_PlatformWriteIsReadBack :
    (oneByte {}).mem.wf = true ∧ (oneByte {}).phase = .between ∧ (oneByte {}).admits (0x5000 % 2 ^ (oneByte {}).params.addrWidth) = true ∧
    (oneByte {}).admits (0x5001 % 2 ^ (oneByte {}).params.addrWidth) = false ∧ (oneByte {}).program = [] ∧
    { oneByte {} with program := [.write 0x5000 0xAA#8] }.program = .write 0x5000 0xAA#8 :: [] := by
  decide

theorem witness_ResetClearsStatusAndUndrivesTheResponse :
    halted.phase = .between ∧ { halted with program := [.reset] }.program = .reset :: [] ∧
    { halted with program := [.abandoned {}] }.program = .abandoned {} :: [] ∧
    (after (step { halted with program := [.abandoned {}] })).map (·.phase) = some .resetting := by
  decide

/-- In each phase. -/
theorem witness_StepKeepsTheInvariant :
    (host [] {}).Inv ∧ (issued [] {}).Inv ∧ { State.reset with phase := .resetting }.Inv ∧
    { State.reset with phase := .responded, racing := [(0, 1#8)], rsp := { status := some 0x00#8 } }.Inv ∧
    (after (step (host [] {}))).map (·.phase) = some .requested ∧ (after (step (issued [] {}))).map (·.status) = some 0x03#8 :=
  ⟨⟨rfl, by decide, by decide, by decide⟩, ⟨rfl, by decide, by decide, by decide⟩, ⟨rfl, by decide, by decide, by decide⟩,
    ⟨rfl, by decide, by decide, by decide⟩, by decide, by decide⟩

theorem witness_HaltedUntilReset :
    halted.faulted = true ∧ (after (step { halted with phase := .requested })).isSome = true ∧
    ¬ resetIsNext { halted with phase := .requested } ∧ ¬ resetIsNext halted ∧
    resetIsNext { halted with phase := .resetting } ∧ resetIsNext { halted with program := [.reset] } := by
  refine ⟨by decide, by decide, ?_, ?_, .inr rfl, .inl ⟨rfl, [], rfl⟩⟩
  · rintro (⟨h, -⟩ | h) <;> cases h
  · rintro (⟨-, r, h⟩ | h) <;> cases h

theorem witness_StatusChangesOnlyByFaultEntryOrReset :
    (after (step State.reset)).map (·.status) = some 0x00#8 ∧ (after (step (issued [] {}))).map (·.status) = some 0x03#8 ∧
    (after (step { halted with phase := .resetting })).map (·.status) = some 0x00#8 := by
  decide

theorem witness_ExecFrame : (after (exec .cvt565To888 State.reset)).isSome = true := by decide

theorem witness_ExecWritesStatusOnlyByAFault :
    (after (exec .cvt565To888 State.reset)).map (·.status) = some 0x00#8 ∧
    (after (exec (.decode 0x40#8) State.reset)).map (·.status) = some 0x05#8 ∧
    (after (exec .blend565 (askedDebug { alpha := 32#8 }))).map (·.status) = some 0x07#8 := by
  decide

theorem witness_EveryAnswerDrivesStatus :
    (after (answer (asked { cmd := 0x10#32 }))).isSome = true ∧ (after (answer (asked {}))).map (·.faulted) = some true := by
  decide

theorem witness_OnlyDecodeReachesMemory :
    (∀ h, Instr.blend565 ≠ .decode h) ∧ (∀ row ∈ routineRows, Instr.blend565 ≠ row.2.2) ∧
    (∀ row ∈ routineRows, Instr.lookup .mono .toArgb ≠ row.2.2) :=
  ⟨fun _ h => (by cases h), by decide, by decide⟩

/-- Two states that differ in the program, the index and the responses alone. -/
theorem witness_AnswerDependsOnlyOnRequestStatusAndBytes :
    let s := asked { cmd := 0x6104#32 }
    let t := { s with program := [.reset], responses := [{}] }
    s ≠ t ∧ s.req = t.req ∧ s.status = t.status ∧ s.params = t.params ∧ s.draws = t.draws ∧
      (∀ a, s.readByte a = t.readByte a) :=
  ⟨by decide, rfl, rfl, rfl, rfl, fun _ => rfl⟩

/-- A state at each rung of R228. -/
theorem witness_AnswersFollowThePriority :
    halted.faulted = true ∧ (asked {}).faulted = false ∧ illegalWord (asked {}).req.cmd ∧
    (¬ illegalWord (asked { cmd := 0x4004#32 }).req.cmd ∧ opcOf (asked { cmd := 0x4004#32 }).req.cmd = 0x04 ∧
      ¬ validHandleNumber (selOf (asked { cmd := 0x4004#32 }).req.cmd)) ∧
    (¬ illegalWord 0x00006804#32 ∧ validHandleNumber (selOf 0x00006804#32) ∧
      ¬ preconditionHolds (asked { cmd := 0x6804#32, bitix := 8#8 }) ∧
      preconditionHolds (asked { cmd := 0x6804#32, bitix := 7#8 }) ∧
      (askedDebug { cmd := 0x6804#32, bitix := 8#8 }).params.debugAssert = true) ∧
    ¬ preconditionHolds (asked { cmd := 0x20#32, alpha := 32#8 }) ∧ preconditionHolds (asked { cmd := 0x20#32, alpha := 31#8 }) ∧
    (¬ bytesAdmitted (oneByte { cmd := 0x4104#32, addr := 0x5000 }) (widthOf (selOf 0x00004104#32 % 16)) ∧
      bytesAdmitted (oneByte { cmd := 0x6904#32, addr := 0x5000 }) (widthOf (selOf 0x00006904#32 % 16))) := by
  unfold illegalWord reservedOpc validHandleNumber preconditionHolds bytesAdmitted
  exact ⟨by decide, by decide, by decide, ⟨by decide, by decide, by decide⟩,
    ⟨by decide, by decide, by decide, by decide, by decide⟩, by decide, by decide, by decide⟩

/-- One to four bytes, in both byte orders, across the wrap. -/
theorem witness_PixelBytesFormTheirInteger :
    (∀ n ∈ [1, 2, 3, 4], ∀ i < n, State.reset.readByte ((0xFFFFFFFF + i) % 2 ^ State.reset.params.addrWidth) = some 0#8) ∧
    State.reset.params.byteOrder = .le ∧
    { State.reset with params := { Config.specParams with byteOrder := .be } }.params.byteOrder = .be ∧
    (after (step State.reset)).isSome = true := by
  decide

theorem witness_UnadmittedReadIsStuck :
    (0, 1, Instr.decode565A5Rgb565) ∈ routineRows ∧ (3, 9, Instr.decodePacked32Grayscale) ∈ routineRows ∧
    (2, 8, Instr.decodeArgbMono) ∈ routineRows ∧ (oneByte { addr := 0x5000, bitix := 7#8 }).Ready ∧
    ¬ bytesAdmitted (oneByte { addr := 0x5000, bitix := 7#8 }) (widthOf 1) ∧
    bytesAdmitted (oneByte { addr := 0x5000, bitix := 7#8 }) (widthOf 8) ∧
    (oneByte { addr := 0x5000, bitix := 7#8 }).req.bitix.toNat ≤ 7 := by
  unfold bytesAdmitted
  decide

theorem witness_RacingByteReadsOldOrNew :
    (oneByte {}).admits 0x5001 = false ∧ (oneByte {}).admits 0x5000 = true ∧
    (∀ c ∈ { oneByte {} with racing := [(0x5001, 1#8)] }.racing, c.1 % 2 ^ (oneByte {}).params.addrWidth ≠ 0x5000) ∧
    (∃ c ∈ { oneByte {} with racing := [(0x5000, 1#8)] }.racing, c.1 % 2 ^ (oneByte {}).params.addrWidth = 0x5000) := by
  decide

/-- R80, R81, R82: a legal and an illegal word of each registry opcode at the ends of the ranges. -/
theorem witness_registryWord :
    (∀ w ∈ [0x00000901, 0x00000A01, 0x00001001, 0x00010001], (asked { cmd := BitVec.ofNat 32 w }).Ready ∧ opcOf (BitVec.ofNat 32 w) = 0x01) ∧
    (∀ w ∈ [0x00000902, 0x00000A02, 0x00001002, 0x80000002], (asked { cmd := BitVec.ofNat 32 w }).Ready ∧ opcOf (BitVec.ofNat 32 w) = 0x02) ∧
    (∀ w ∈ [0x00003903, 0x00000A03, 0x00004003, 0x00010003], (asked { cmd := BitVec.ofNat 32 w }).Ready ∧ opcOf (BitVec.ofNat 32 w) = 0x03) ∧
    ((0x00000901#32).toNat / 2 ^ 12 = 0 ∧ (0x00000901#32).toNat / 2 ^ 8 % 16 = 9) ∧
    ((0x00001001#32).toNat / 2 ^ 12 ≠ 0 ∧ 9 < (0x00000A01#32).toNat / 2 ^ 8 % 16) ∧
    ((0x00003903#32).toNat / 2 ^ 14 = 0 ∧ (0x00003903#32).toNat / 2 ^ 8 % 16 = 9 ∧ (0x00004003#32).toNat / 2 ^ 14 ≠ 0) := by
  decide

theorem witness_HasAlphaOfEachFormat : State.reset.Ready ∧ (asked { cmd := 0x0901#32 }).Ready := ⟨rfl, rfl⟩

theorem witness_ByteWidthOfEachFormat : State.reset.Ready ∧ (asked { cmd := 0x0902#32 }).Ready := ⟨rfl, rfl⟩

theorem witness_LookupGivesTheHandleOrNull :
    State.reset.Ready ∧ ¬ (PixelFormat.mono = .unknown ∨ PixelFormat.mono = .indexed) := by
  decide

theorem witness_InvalidHandleRaisesNullDecoder :
    State.reset.Ready ∧ ∀ h ∈ [0x00, 0x01, 0x40, 0x47, 0x4A, 0x7F, 0x80, 0xC1, 0xFF],
      ¬ validHandleNumber (BitVec.ofNat 8 h).toNat := by
  unfold validHandleNumber
  decide

theorem witness_DecodeRunsTheRoutineOfItsHandle :
    (1, 8, Instr.decode565A8Mono) ∈ routineRows ∧ (3, 6, Instr.decodePacked32Argb8888) ∈ routineRows ∧
    (asked { bitix := 7#8 }).Ready ∧ bytesAdmitted (asked { bitix := 7#8 }) (widthOf 8) ∧
    bytesAdmitted (asked { addr := 0xFFFFFFFF }) (widthOf 6) ∧ (asked { bitix := 7#8 }).req.bitix.toNat ≤ 7 := by
  unfold bytesAdmitted
  decide

/-- The same two bytes at two addresses. -/
theorem witness_DecodeIsAFunctionOfItsBytes :
    let s := { asked { addr := 0x1000 } with mem := [(0x1000, 0x10#8), (0x1001, 0x84#8), (0x2000, 0x10#8), (0x2001, 0x84#8)] }
    let t := { s with req := { addr := 0x2000, a := 1#32 } }
    (0, 1, Instr.decode565A5Rgb565) ∈ routineRows ∧ s.Ready ∧ t.Ready ∧ s.params = t.params ∧ s.status = t.status ∧
    s.req.adef = t.req.adef ∧ s.req.bitix = t.req.bitix ∧ s.req.bitix.toNat ≤ 7 ∧
    (∀ i < widthOf 1, s.readByte ((s.req.addr + i) % 2 ^ s.params.addrWidth) =
      t.readByte ((t.req.addr + i) % 2 ^ t.params.addrWidth)) ∧
    (after (exec .decode565A5Rgb565 s)).isSome = true := by
  decide

/-- A readable pixel of each width: Decode565A5Results, Decode565A8Results, DecodeArgbResults, DecodePacked32Results. -/
theorem witness_decodeResults :
    let s := { asked { addr := 0x2000 } with mem := [(0x2000, 0x40#8), (0x2001, 0x80#8), (0x2002, 0xFF#8), (0x2003, 0x81#8)] }
    s.Ready ∧ s.memRead s.req.addr 1 = some 0x40#32 ∧ s.memRead s.req.addr 2 = some 0x8040#32 ∧
      s.memRead s.req.addr 3 = some 0xFF8040#32 ∧ s.memRead s.req.addr 4 = some 0x81FF8040#32 := by
  decide

/-- BITIX = 7, and BITIX = 8 with DEBUG_ASSERT = 0 and 1. -/
theorem witness_DecodeMonoResults :
    (asked { bitix := 7#8 }).Ready ∧ (asked { bitix := 7#8 }).memRead 0 1 = some 0#32 ∧
    (asked { bitix := 7#8 }).req.bitix.toNat ≤ 7 ∧ 7 < (asked { bitix := 8#8 }).req.bitix.toNat ∧
    (asked { bitix := 8#8 }).params.debugAssert = false ∧ (asked { bitix := 8#8 }).memRead 0 1 = some 0#32 ∧
    (askedDebug { bitix := 8#8 }).params.debugAssert = true ∧ (askedDebug { bitix := 8#8 }).memRead 0 1 = some 0#32 := by
  decide

theorem witness_AlphaDefaultIsReturnedUnchanged :
    (asked { adef := 0x5A#8, bitix := 8#8 }).Ready ∧
    (after (exec .decode565A8Rgb565 (asked { adef := 0x5A#8 }))).map (·.faulted) = some false ∧
    (after (exec .decodeArgbMono (asked { adef := 0x5A#8, bitix := 8#8 }))).map (·.faulted) = some false := by
  decide

/-- Each precondition of R224 at the first value that fails it. -/
theorem witness_FailedPreconditionInDebugModeRaisesPrecondition :
    (askedDebug { alpha := 32#8 }).Ready ∧ (askedDebug { alpha := 32#8 }).params.debugAssert = true ∧
    31 < (askedDebug { alpha := 32#8 }).req.alpha.toNat ∧
    (askedDebug { a := 0x20#32 }).req.a &&& ~~~(askedDebug { a := 0x20#32 }).params.m565 ≠ 0#32 ∧
    (askedDebug { a := 0x100#32 }).req.a &&& ~~~0x00FF00FF#32 ≠ 0#32 ∧
    (askedDebug { c := 0x1#32 }).req.c &&& ~~~0x0000FF00#32 ≠ 0#32 ∧ 7 < (askedDebug { bitix := 8#8 }).req.bitix.toNat := by
  decide

/-- The conversions need only a PFC that is not halted: Rgb565ConversionResults, Argb8888ConversionResults,
GrayAndMonoToColorResults, OpenConversionsApplyTheirParameters. -/
theorem witness_conversionResults : (asked { a := 0x80FF8040#32 }).Ready := rfl

theorem witness_RgbTo565AndBackRoundTrip :
    State.reset.Ready ∧ (0xF8#8).toNat % 8 = 0 ∧ (0xFC#8).toNat % 4 = 0 ∧ (0x08#8).toNat % 8 = 0 := by
  decide

/-- ALPHA at 31 and 32. -/
theorem witness_Blend565Results :
    (asked { alpha := 31#8 }).Ready ∧ (asked { alpha := 31#8 }).req.alpha.toNat ≤ 31 ∧
    31 < (asked { alpha := 32#8 }).req.alpha.toNat ∧ (asked { alpha := 32#8 }).params.debugAssert = false ∧
    (askedDebug { alpha := 32#8 }).params.debugAssert = true := by
  decide

theorem witness_Prep565SpreadsTheLanes :
    State.reset.Ready ∧ 0x07E0F81F#32 &&& ~~~0x07E0F81F#32 = 0#32 ∧
    spread565 0x07E0F81F#32 0xFFFF#16 = 0x07E0F81F#32 := by
  decide

/-- ALPHA at 31 and 32, A inside M565 and outside it. -/
theorem witness_PreparedBlend565Results :
    (asked { alpha := 31#8, a := 0x07E0F81F#32 }).Ready ∧ (asked { alpha := 31#8, a := 0x07E0F81F#32 }).req.alpha.toNat ≤ 31 ∧
    (asked { alpha := 31#8, a := 0x07E0F81F#32 }).req.a &&& ~~~State.reset.params.m565 = 0#32 ∧
    31 < (asked { alpha := 32#8 }).req.alpha.toNat ∧
    (asked { a := 0x08000000#32 }).req.a &&& ~~~State.reset.params.m565 ≠ 0#32 ∧
    (asked { a := 0x08000000#32 }).params.debugAssert = false ∧ (askedDebug { a := 0x08000000#32 }).params.debugAssert = true := by
  decide

theorem witness_Blend565LaneLaw : (31#8).toNat ≤ 31 := by decide

theorem witness_Blend565AtAlphaZeroIsTheBackground :
    (asked { a := 0x07E0F81F#32, b := 0x1234#32, alpha := 0#8 }).Ready ∧ State.reset.params.m565 = 0x07E0F81F#32 ∧
    (asked { alpha := 7#8 }).req.alpha.toNat ≤ 7 ∧ (asked { a := 0x07E0F81F#32 }).req.alpha = 0#8 ∧
    (asked { a := 0x07E0F81F#32 }).req.a &&& ~~~0x07E0F81F#32 = 0#32 := by
  decide

theorem witness_PreparedBlend565EqualsDirectBlend :
    (asked { a := 0x07E0#32, b := 0xF800#32, alpha := 31#8 }).Ready ∧ (asked { alpha := 31#8 }).req.alpha.toNat ≤ 31 := by
  decide

theorem witness_Blend888Results : (asked { a := 0x123456#32, b := 0xABCDEF#32, alpha := 255#8 }).Ready := rfl

/-- A and C inside their masks and outside them. -/
theorem witness_PreparedBlend888Results :
    (asked { a := 0x00120056#32, c := 0x00003400#32 }).Ready ∧
    (asked { a := 0x00FF00FF#32 }).req.a &&& ~~~0x00FF00FF#32 = 0#32 ∧
    (asked { c := 0x0000FF00#32 }).req.c &&& ~~~0x0000FF00#32 = 0#32 ∧
    (asked { a := 0x01000000#32 }).req.a &&& ~~~0x00FF00FF#32 ≠ 0#32 ∧
    (asked { c := 0x00000001#32 }).req.c &&& ~~~0x0000FF00#32 ≠ 0#32 ∧
    (asked { c := 0x00000001#32 }).params.debugAssert = false ∧ (askedDebug { c := 0x00000001#32 }).params.debugAssert = true := by
  decide

theorem witness_BlendArgbEqualsBlend888 : (asked { a := 0xFF0000#32, b := 0x0000FF#32, alpha := 128#8 }).Ready := rfl

theorem witness_Blend888AtTheEndsOfAlpha :
    (asked { alpha := 255#8 }).Ready ∧ (asked { alpha := 0#8 }).req.alpha = 0#8 ∧ (asked { alpha := 255#8 }).req.alpha = 255#8 ∧
    (asked { a := 0xAA123456#32, b := 0x55123456#32 }).req.a.extractLsb 23 0 =
      (asked { a := 0xAA123456#32, b := 0x55123456#32 }).req.b.extractLsb 23 0 := by
  decide

theorem witness_PreparedBlend888EqualsDirectBlend : (asked { a := 0x80FF8040#32, alpha := 128#8 }).Ready := rfl

/-- Two requests that differ above bit 15 of A, above bit 0 of A, and in ADEF. -/
theorem witness_UnnamedOperandBitsAreIgnored :
    sameOperands (operandUse .blend565) (asked { a := 0x00001234#32 }).req
      { a := 0xABCD1234#32, b := 0xFFFF0000#32, c := 0x1#32, adef := 0xFF#8, addr := 9 } ∧
    sameOperands (operandUse .cvtMonoTo565) (asked { a := 0x1#32 }).req { a := 0xFFFFFFFF#32, b := 0x1#32, alpha := 0xFF#8 } ∧
    sameOperands (operandUse .decodePacked32Rgb888) (asked { addr := 5 }).req { addr := 5, adef := 0xFF#8, bitix := 8#8 } ∧
    sameOperands (operandUse (.decode 0x40#8)) (asked {}).req { addr := 5, adef := 0xFF#8, bitix := 8#8 } ∧
    ¬ sameOperands (operandUse (.decode 0x48#8)) (asked {}).req { bitix := 8#8 } := by
  unfold sameOperands
  refine ⟨?_, ?_, ?_, ?_, ?_⟩ <;> decide

/-- A step of each agent, the host's issue of a request and of an abandoned one among them. -/
theorem witness_EachAgentsStepChangesWhatIsItsOwn :
    (after (step { State.reset with program := [.request { a := 0x1#32 } [(0x10, 0xAA#8)]] })).map (·.req.a) = some 0x1#32 ∧
    (after (step { State.reset with program := [.abandoned { a := 0x1#32 }] })).map (·.phase) = some .resetting ∧
    (issued [] { cmd := 0x10#32 }).phase = .requested ∧ (after (step (issued [] { cmd := 0x10#32 }))).isSome = true ∧
    (after (step { State.reset with phase := .responded })).map (·.responses) = some [{}] ∧
    (after (step { State.reset with phase := .responded, racing := [(0x10, 0xAA#8)] })).map (·.mem) = some [(0x10, 0xAA#8)] ∧
    (after (step { State.reset with program := [.write 0x10 0xAA#8] })).map (·.mem) = some [(0x10, 0xAA#8)] := by
  decide

/-! ## The host's probes -/

/-- The decoder as the opcode table numbers bits, and the first instruction after reset. -/
theorem test_table_word_probe :
    decodeTableWord 32 0x00006104 = some .decodeArgbRgb565 ∧ decodeTableWord 32 0x00000000 = none ∧
    (after (step (State.reset.withFetchWord 32 0x00000302))).map (·.rsp) =
      some { status := some 0x00#8, y0 := some 3#32 } := by
  decide

end Sys2Proof.Tests
end

section
/-! Proofs about the channel helpers (spec/00_scope.md R12). -/

namespace Sys2Proof.Machine

/-! ## Widening by replication and narrowing by truncation, at every width -/

/-- Widening by replication as a number: `w` bits moved up by `k`, the freed low bits taken from the high bits of the
value. It fits in `n` bits, and the replicated bits fit below the moved ones. -/
theorem replicate_toNat {w n k j : Nat} (v : BitVec w) (fits : w + k ≤ n) (below : w ≤ j + k) :
    ((v.zeroExtend n <<< k) ||| (v.zeroExtend n >>> j)).toNat = 2 ^ k * v.toNat + v.toNat / 2 ^ j := by
  have widened : (v.zeroExtend n).toNat = v.toNat :=
    BitVec.toNat_setWidth_of_le (by omega)
  have noOverflow : v.toNat <<< k < 2 ^ n := by
    calc v.toNat <<< k = v.toNat * 2 ^ k := Nat.shiftLeft_eq ..
      _ < 2 ^ w * 2 ^ k := Nat.mul_lt_mul_of_pos_right v.isLt (Nat.two_pow_pos k)
      _ = 2 ^ (w + k) := (Nat.pow_add ..).symm
      _ ≤ 2 ^ n := Nat.pow_le_pow_right (by decide) fits
  have lowPart : v.toNat / 2 ^ j < 2 ^ k := by
    apply Nat.div_lt_of_lt_mul
    calc v.toNat < 2 ^ w := v.isLt
      _ ≤ 2 ^ (j + k) := Nat.pow_le_pow_right (by decide) below
      _ = 2 ^ j * 2 ^ k := Nat.pow_add ..
  rw [BitVec.toNat_or, BitVec.toNat_shiftLeft, BitVec.toNat_ushiftRight, widened, Nat.mod_eq_of_lt noOverflow,
    Nat.shiftRight_eq_div_pow, shift_or_toNat _ _ k lowPart, Nat.mul_comm]

/-- Narrowing as a number: the low `k` bits are dropped, and what is left fits in `n` bits. -/
theorem narrow_toNat {w n k : Nat} (v : BitVec w) (fits : w ≤ k + n) :
    ((v >>> k).truncate n).toNat = v.toNat / 2 ^ k := by
  have left : v.toNat / 2 ^ k < 2 ^ n := by
    apply Nat.div_lt_of_lt_mul
    calc v.toNat < 2 ^ w := v.isLt
      _ ≤ 2 ^ (k + n) := Nat.pow_le_pow_right (by decide) fits
      _ = 2 ^ k * 2 ^ n := Nat.pow_add ..
  rw [BitVec.truncate_eq_setWidth, BitVec.toNat_setWidth, BitVec.toNat_ushiftRight, Nat.shiftRight_eq_div_pow,
    Nat.mod_eq_of_lt left]

/-! ## The helpers of R12 as numbers -/

theorem x5to8_toNat (v : BitVec 5) : (x5to8 v).toNat = 8 * v.toNat + v.toNat / 4 :=
  replicate_toNat (k := 3) (j := 2) v (by decide) (by decide)

theorem x6to8_toNat (v : BitVec 6) : (x6to8 v).toNat = 4 * v.toNat + v.toNat / 16 :=
  replicate_toNat (k := 2) (j := 4) v (by decide) (by decide)

/-- All four bits are replicated: 17 is 16 + 1. -/
theorem x4to8_toNat (v : BitVec 4) : (x4to8 v).toNat = 17 * v.toNat := by
  have h : (x4to8 v).toNat = 2 ^ 4 * v.toNat + v.toNat / 2 ^ 0 :=
    replicate_toNat (k := 4) (j := 0) v (by decide) (by decide)
  omega

theorem x4to5_toNat (v : BitVec 4) : (x4to5 v).toNat = 2 * v.toNat + v.toNat / 8 :=
  replicate_toNat (k := 1) (j := 3) v (by decide) (by decide)

theorem x4to6_toNat (v : BitVec 4) : (x4to6 v).toNat = 4 * v.toNat + v.toNat / 4 :=
  replicate_toNat (k := 2) (j := 2) v (by decide) (by decide)

theorem n8to5_toNat (v : BitVec 8) : (n8to5 v).toNat = v.toNat / 8 :=
  narrow_toNat (k := 3) v (by decide)

theorem n8to6_toNat (v : BitVec 8) : (n8to6 v).toNat = v.toNat / 4 :=
  narrow_toNat (k := 2) v (by decide)

theorem n6to5_toNat (v : BitVec 6) : (n6to5 v).toNat = v.toNat / 2 :=
  narrow_toNat (k := 1) v (by decide)

/-- Red is the top field: nothing above it is dropped. -/
theorem r5_toNat (c : BitVec 16) : (r5 c).toNat = c.toNat / 2048 := by
  rw [r5, field_toNat]
  omega

theorem g6_toNat (c : BitVec 16) : (g6 c).toNat = c.toNat / 32 % 64 := field_toNat c 5 6

theorem b5_toNat (c : BitVec 16) : (b5 c).toNat = c.toNat % 32 := by
  rw [b5, field_toNat]
  omega

/-- Settles O42: widening and narrowing are `replicate_toNat` and `narrow_toNat` at the widths of R12, the fields are
quotients and remainders, and the packed fields stand in disjoint bit ranges. -/
theorem channelHelpersAreAsDefined : Obligations.ChannelHelpersAreAsDefined :=
  ⟨x5to8_toNat, x6to8_toNat, fun v => ⟨x4to8_toNat v, x4to5_toNat v, x4to6_toNat v⟩,
    fun v => ⟨n8to5_toNat v, n8to6_toNat v⟩, n6to5_toNat, fun c => ⟨r5_toNat c, g6_toNat c, b5_toNat c⟩,
    pack565_toNat, fun a r g b => ⟨pack888_toNat r g b, pack8888_toNat a r g b⟩⟩

end Sys2Proof.Machine
end

section
/-! Proofs about the step, the host and the platform (spec/10_state.md R20-R36): whose step comes next, what it changes,
and what every step keeps. -/

namespace Sys2Proof.Machine
open Sys2Proof.Claims

/-! ## The state after reset -/

/-- The DISPATCH ROM over all 16 codes, R30. -/
theorem dispatchRom_toNat (rep : TargetRep) (code : BitVec 4) : (dispatchRom rep code).toNat =
    if code.toNat ∈ [1, 2, 3, 4, 5, 6, 8, 9] then 0x40 + 16 * rep.code.toNat + code.toNat else 0 := by
  cases rep <;> revert code <;> decide

/-- The entry of a format: NULL where it has no routine, else its handle (R66). -/
theorem dispatch_toNat (rep : TargetRep) (fmt : PixelFormat) : (dispatch rep fmt).toNat =
    if fmt = .unknown ∨ fmt = .indexed then 0 else 0x40 + 16 * rep.code.toNat + fmt.code.toNat := by
  rw [dispatch, dispatchRom_toNat]
  cases fmt <;> rfl

theorem hasAlpha_eq (fmt : PixelFormat) : fmt.hasAlpha = decide (fmt.code.toNat ∈ [2, 3, 4, 6]) := by
  cases fmt <;> rfl

/-- Settles O10: STATUS is 0x00, no response field is driven, and the ROMs are the constants of R30 and R31. -/
theorem resetStateIsAsTheSpecSays : Obligations.ResetStateIsAsTheSpecSays :=
  ⟨rfl, rfl, rfl, rfl, rfl, rfl, rfl, rfl, rfl, dispatchRom_toNat, dispatch_toNat, hasAlpha_eq, rfl⟩

/-! ## The step of each agent, as an equation -/

theorem step_idle {s : State} (p : s.phase = .between) (e : s.program = []) : step s = .next s := by
  simp [step, stepBetween, p, e]

theorem step_issue {s : State} {r : Request} {ws : List Host.Cell} {rest : List Action} (p : s.phase = .between)
    (e : s.program = .request r ws :: rest) : step s = .next (s.present .requested r ws rest) := by
  simp [step, stepBetween, p, e]

theorem step_issueAbandoned {s : State} {r : Request} {rest : List Action} (p : s.phase = .between)
    (e : s.program = .abandoned r :: rest) : step s = .next (s.present .resetting r [] rest) := by
  simp [step, stepBetween, p, e]

theorem step_write {s : State} {a : Nat} {b : Byte} {rest : List Action} (p : s.phase = .between)
    (e : s.program = .write a b :: rest) : step s = .next ({ s with program := rest }.platformWrite a b) := by
  simp [step, stepBetween, p, e]

theorem step_requested {s : State} (p : s.phase = .requested) : step s = performed (answer s) := by
  simp [step, p]

theorem step_completeWrite {s : State} {w : Host.Cell} {ws : List Host.Cell} (p : s.phase = .responded)
    (e : s.racing = w :: ws) : step s = .next (s.completeWrite w ws) := by
  simp [step, stepResponded, p, e]

theorem step_receive {s : State} (p : s.phase = .responded) (e : s.racing = []) : step s = .next s.receive := by
  simp [step, stepResponded, p, e]

/-! ## A platform write changes pixel memory alone -/

theorem State.platformWrite_eq (a : Nat) (b : Byte) (s : State) :
    s.platformWrite a b = { s with mem := (s.platformWrite a b).mem } := by
  unfold State.platformWrite; split <;> rfl

theorem State.platformWrite_admitted_eq {s : State} {a : Nat} (h : s.admits (s.byteAddr a) = true) (b : Byte) :
    s.platformWrite a b = { s with mem := s.mem.writeByte (s.byteAddr a) b } := by
  simp [State.platformWrite, h]

theorem State.platformWrite_unadmitted {s : State} {a : Nat} (h : s.admits (s.byteAddr a) = false) (b : Byte) :
    s.platformWrite a b = s := by
  simp [State.platformWrite, h]

/-- What a write does to memory depends on the memory, the address width and the map alone. -/
theorem State.platformWrite_mem_congr {s t : State} (hm : s.mem = t.mem) (hp : s.params = t.params)
    (hg : s.admitted = t.admitted) (a : Nat) (b : Byte) : (s.platformWrite a b).mem = (t.platformWrite a b).mem := by
  have addr : s.byteAddr a = t.byteAddr a := by rw [State.byteAddr, State.byteAddr, hp]
  have admits : s.admits (s.byteAddr a) = t.admits (t.byteAddr a) := by rw [State.admits, State.admits, hg, addr]
  cases h : t.admits (t.byteAddr a) with
  | true => simp only [State.platformWrite_admitted_eq (admits.trans h), State.platformWrite_admitted_eq h, hm, addr]
  | false => rw [State.platformWrite_unadmitted (admits.trans h), State.platformWrite_unadmitted h, hm]

theorem writesDone_mem_congr (ws : List Host.Cell) {s t : State} (hm : s.mem = t.mem) (hp : s.params = t.params)
    (hg : s.admitted = t.admitted) : (writesDone ws s).mem = (writesDone ws t).mem := by
  induction ws generalizing s t with
  | nil => exact hm
  | cons w ws ih => exact ih (State.platformWrite_mem_congr hm hp hg w.1 w.2) (by simp [hp]) (by simp [hg])

/-- A completed racing write is a platform write that leaves the list of racing writes. -/
theorem State.completeWrite_eq (w : Host.Cell) (ws : List Host.Cell) (s : State) :
    s.completeWrite w ws = { s with mem := (s.platformWrite w.1 w.2).mem, racing := ws } := by
  rw [State.completeWrite, State.platformWrite_eq,
    State.platformWrite_mem_congr (s := { s with racing := ws }) (t := s) rfl rfl rfl]

/-! ## What every step keeps -/

/-- A next state that PFC answers is a response or an entered fault. -/
theorem answer_next {s t : State} (h : answer s = .next t) :
    (∃ r n, t = (s.respond r).advanceDraws n) ∨ (s.faulted = false ∧ ∃ c, t = s.enterFault c) := by
  have shape := answer_shape s
  rw [h] at shape
  generalize e : Host.Outcome.next t = o at shape
  cases shape with
  | responded r n => cases e; exact .inl ⟨r, n, rfl⟩
  | entered c ready => cases e; exact .inr ⟨ready, c, rfl⟩
  | stuck ready => cases e

/-- Every answer drives STATUS, with the value STATUS has then. -/
theorem answer_drives_status {s t : State} (h : answer s = .next t) : t.rsp.status = some t.statusRead := by
  rcases answer_next h with ⟨r, n, rfl⟩ | ⟨-, c, rfl⟩ <;> rfl

theorem faultStatus_legal (c : Cause) :
    faultStatus c = 0x03#8 ∨ faultStatus c = 0x05#8 ∨ faultStatus c = 0x07#8 := by
  cases c <;> decide

theorem State.Inv.platformWrite {s : State} (h : s.Inv) (a : Nat) (b : Byte) : (s.platformWrite a b).Inv := by
  rw [State.platformWrite_eq]
  exact ⟨State.wf_platformWrite h.memory a b, h.status, h.records, h.turns⟩

/-- Settles O11, by the cases of what a step can be: memory is written by platform writes alone, which keep the canonical
form; STATUS by fault entry and reset; the response that the host receives was driven by PFC's answer. -/
theorem stepKeepsTheInvariant : Obligations.StepKeepsTheInvariant := by
  intro s t ⟨memory, status, ⟨driven, counted⟩, ⟨calm, answered⟩⟩ h
  cases step_shape h with
  | idle p e => exact ⟨memory, status, ⟨driven, counted⟩, calm, answered⟩
  | issued p r ws rest e => exact ⟨memory, status, ⟨driven, counted⟩, nofun, nofun⟩
  | wrote p a b rest e =>
    exact State.Inv.platformWrite (s := { s with program := rest }) ⟨memory, status, ⟨driven, counted⟩, calm, answered⟩ a b
  | reset p rest e => exact ⟨memory, .inl rfl, ⟨driven, counted⟩, fun _ => rfl, nofun⟩
  | issuedAbandoned p r rest e => exact ⟨memory, status, ⟨driven, counted⟩, nofun, nofun⟩
  | responded p r n e => exact ⟨memory, status, ⟨driven, counted⟩, nofun, fun _ => rfl⟩
  | entered p c ready e =>
    exact ⟨memory, .inr (by simpa using faultStatus_legal c), ⟨driven, counted⟩, nofun, fun _ => rfl⟩
  | abandoned p => exact ⟨memory, .inl rfl, ⟨driven, Nat.le_succ_of_le counted⟩, fun _ => rfl, nofun⟩
  | completed p w ws e =>
    exact State.Inv.platformWrite (s := { s with racing := ws })
      ⟨memory, status, ⟨driven, counted⟩, by simp [p], answered⟩ w.1 w.2
  | received p e =>
    refine ⟨memory, status, ⟨fun r hr => ?_, ?_⟩, fun _ => e, nofun⟩
    · rcases List.mem_append.mp hr with old | new
      · exact driven r old
      · rw [List.mem_singleton.mp new]; exact answered p
    · simpa using counted

/-- Settles O12: memory is empty, STATUS is 0x00, and there is neither a response nor a write in flight. -/
theorem resetMeetsTheInvariant : Obligations.ResetMeetsTheInvariant :=
  ⟨State.wf_reset, .inl rfl, ⟨nofun, Nat.le_refl 0⟩, fun _ => rfl, nofun⟩

/-- Settles O14, by the cases of what a step can be. -/
theorem statusChangesOnlyByFaultEntryOrReset : Obligations.StatusChangesOnlyByFaultEntryOrReset := by
  intro s t h
  cases step_shape h with
  | idle | issued | issuedAbandoned | responded | received => exact .inl rfl
  | wrote | completed => exact .inl (by simp)
  | reset p rest e => exact .inr (.inr ⟨.inl ⟨p, rest, e⟩, rfl⟩)
  | entered p c ready e => exact .inr (.inl ⟨ready, p, by simpa using faultStatus_legal c⟩)
  | abandoned p => exact .inr (.inr ⟨.inr p, rfl⟩)

/-! ## The step of each agent -/

/-- Settles O5: PFC's step is its answer, which is exec of the decoded command. -/
theorem stepPerformsTheDecodedRequest : Obligations.StepPerformsTheDecodedRequest := by
  intro s i p h
  rw [step_requested p, answer_command h]
  cases exec i s <;> rfl

/-- From PFC's answer on: one step for each racing write, in order, then the receipt. -/
theorem reaches_received {ws : List Host.Cell} {s : State} (p : s.phase = .responded) (e : s.racing = ws) :
    Reaches (ws.length + 1) s { s with
      phase := .between, racing := [], mem := (writesDone ws s).mem, index := s.index + 1
      responses := s.responses ++ [s.rsp] } := by
  induction ws generalizing s with
  | nil => exact ⟨_, step_receive p e, by simp [Reaches, State.receive, writesDone, e]⟩
  | cons w ws ih =>
    refine ⟨_, step_completeWrite p e, ?_⟩
    have rest := ih (s := s.completeWrite w ws) (by simpa using p) (by simp)
    rw [writesDone_mem_congr ws (t := s.platformWrite w.1 w.2) (by rw [State.completeWrite_eq]) (by simp) (by simp),
      State.completeWrite_eq] at rest
    rw [State.completeWrite_eq]
    exact rest

/-- An answer changes STATUS, the response and the draws alone. -/
theorem answer_frame {s t : State} (h : answer s = .next t) :
    ∃ v r d, t = { s with status := v, rsp := r, draws := d } := by
  rcases answer_next h with ⟨r, n, rfl⟩ | ⟨-, c, rfl⟩ <;> exact ⟨_, _, _, rfl⟩

/-- Settles O7: the issue is one step, PFC's answer the next, and `reaches_received` gives the rest. -/
theorem performedRequestAdvancesTheIndexByOne : Obligations.PerformedRequestAdvancesTheIndexByOne := by
  intro s r ws rest p e
  refine ⟨step_issue p e, fun u hu => ?_⟩
  have drives := answer_drives_status hu
  have perform : step _ = .next u.answered := (step_requested rfl).trans (congrArg performed hu)
  obtain ⟨v, rsp, d, rfl⟩ := answer_frame hu
  exact ⟨_, ⟨_, perform, reaches_received rfl rfl⟩, rfl, rfl, rfl, rfl, rfl, rfl, rfl, rfl, drives,
    writesDone_mem_congr ws rfl rfl rfl⟩

/-- Settles O8: a platform write changes memory as `Memory.writeByte` does, and nothing where it is not admitted. -/
theorem platformWriteIsReadBack : Obligations.PlatformWriteIsReadBack := by
  intro s a b rest wf p
  refine ⟨fun e admitted => ?_, fun e unadmitted => ?_, step_idle p⟩
  · refine ⟨_, step_write p e, ?_⟩
    rw [State.platformWrite_admitted_eq (s := { s with program := rest }) admitted]
    exact ⟨Memory.readByte_writeByte_same wf _ b, fun a' other => Memory.readByte_writeByte_other other _ b,
      Memory.wf_writeByte wf _ b, rfl⟩
  · rw [step_write p e, State.platformWrite_unadmitted (s := { s with program := rest }) unadmitted]

/-- The request fields change in the host's issue alone. -/
theorem step_req {s t : State} (h : step s = .next t) (changed : t.req ≠ s.req) : s.phase = .between ∧
    ((∃ r ws rest, s.program = .request r ws :: rest) ∨ ∃ r rest, s.program = .abandoned r :: rest) := by
  cases step_shape h with
  | issued p r ws rest e => exact ⟨p, .inl ⟨r, ws, rest, e⟩⟩
  | issuedAbandoned p r rest e => exact ⟨p, .inr ⟨r, rest, e⟩⟩
  | idle | reset | responded | entered | abandoned | received => exact absurd rfl changed
  | wrote | completed => exact absurd (by simp) changed

/-- The responses received change in the host's receipt alone. -/
theorem step_responses {s t : State} (h : step s = .next t) (changed : t.responses ≠ s.responses) :
    s.phase = .responded ∧ s.racing = [] := by
  cases step_shape h with
  | received p e => exact ⟨p, e⟩
  | idle | issued | issuedAbandoned | reset | responded | entered | abandoned => exact absurd rfl changed
  | wrote | completed => exact absurd (by simp) changed

/-- Pixel memory changes in a platform write alone, between transactions or racing one. -/
theorem step_mem {s t : State} (h : step s = .next t) (changed : t.mem ≠ s.mem) :
    (s.phase = .between ∧ ∃ a b rest, s.program = .write a b :: rest) ∨ (s.phase = .responded ∧ s.racing ≠ []) := by
  cases step_shape h with
  | wrote p a b rest e => exact .inl ⟨p, a, b, rest, e⟩
  | completed p w ws e => exact .inr ⟨p, by simp [e]⟩
  | idle | issued | issuedAbandoned | reset | responded | entered | abandoned | received => exact absurd rfl changed

/-- PFC's step is its answer with the turn passed on, and changes only what an answer changes. -/
theorem step_requested_eq {s t : State} (h : step s = .next t) (p : s.phase = .requested) :
    t = { s with status := t.status, rsp := t.rsp, draws := t.draws, phase := .responded } ∧
      answer s = .next { t with phase := .requested } := by
  rw [step_requested p] at h
  cases ans : answer s with
  | next u =>
    rw [ans] at h
    cases h
    obtain ⟨v, r, d, rfl⟩ := answer_frame ans
    exact ⟨rfl, by rw [← p]; rfl⟩
  | fault | refused => rw [ans] at h; cases h

/-- Settles O56: each agent's step as an equation, and for the request, the responses and memory the one step that changes
them. -/
theorem eachAgentsStepChangesWhatIsItsOwn : Obligations.EachAgentsStepChangesWhatIsItsOwn := by
  intro s t h
  have next_eq {u : State} (hu : step s = .next u) : t = u := Host.Outcome.next.inj (h.symm.trans hu)
  exact ⟨step_requested_eq h, fun _ _ _ p e => next_eq (step_issue p e), fun _ _ p e => next_eq (step_issueAbandoned p e),
    step_req h, step_responses h, fun p e => next_eq (step_receive p e), step_mem h,
    fun a b ws p e => (next_eq (step_completeWrite p e)).trans (State.completeWrite_eq (a, b) ws s)⟩

end Sys2Proof.Machine
end

section
/-! Proofs about what an answer depends on and drives (spec/10_state.md R23-R33): the causes an instruction can raise, the
response of every transaction, and the request fields and operand bits a command reads. -/

namespace Sys2Proof.Machine
open Sys2Proof.Claims

/-! ## DECODE of a handle: NULL_DECODER or the handle's row -/

theorem validHandle_iff (h : BitVec 8) : validHandle h = true ↔ validHandleNumber h.toNat := by
  unfold validHandleNumber; revert h; decide

/-- A valid handle is that of its target and its decodable format (R66). -/
theorem handleTarget?_sound (h : BitVec 8) : ∀ p ∈ handleTarget? h, h = handleOf p.1 p.2 ∧ p.2.decodable = true := by
  revert h; decide

/-- The routine of a decodable format is the row of its handle, which names the same operands (R66, R72, R83). -/
theorem runRoutine_row (rep : TargetRep) {fmt : PixelFormat} (h : fmt.decodable = true) :
    ∃ row, handleTable.lookup (handleOf rep fmt) = some row ∧ (∀ handle, row ≠ .decode handle) ∧
      operandUse (.decode (handleOf rep fmt)) = operandUse row ∧ ∀ s, runRoutine rep fmt s = exec row s := by
  cases fmt with
  | unknown | indexed => cases h
  | rgb565 | argb4444 | argb6666 | argb8565 | rgb888 | argb8888 | mono | grayscale =>
    cases rep <;> exact ⟨_, rfl, nofun, rfl, fun _ => rfl⟩

/-- DECODE of a handle that is not valid is NULL_DECODER; of a valid one it is the handle's row. -/
theorem exec_decode_cases (handle : BitVec 8) :
    (validHandle handle = false ∧ ∀ s, exec (.decode handle) s = nullDecoder s) ∨
    ∃ row, handleTable.lookup handle = some row ∧ (∀ h, row ≠ .decode h) ∧
      operandUse (.decode handle) = operandUse row ∧ ∀ s, exec (.decode handle) s = exec row s := by
  cases target : handleTarget? handle with
  | none => exact .inl ⟨by simp [validHandle, target], execDecode_invalid target⟩
  | some p =>
    obtain ⟨handle_eq, decodable⟩ := handleTarget?_sound handle p target
    obtain ⟨row, lookup, notDecode, use, run⟩ := runRoutine_row p.1 decodable
    rw [← handle_eq] at lookup use
    exact .inr ⟨row, lookup, notDecode, use, fun s => (execDecode_valid target s).trans (run s)⟩

/-- Every instruction is NULL_DECODER, for a handle that is not valid, or acts as a row other than DECODE. -/
theorem exec_cases (i : Instr) :
    (∃ h, i = .decode h ∧ validHandle h = false ∧ ∀ s, exec i s = nullDecoder s) ∨
    ∃ row, (∀ h, row ≠ .decode h) ∧ operandUse i = operandUse row ∧ ∀ s, exec i s = exec row s := by
  by_cases notDecode : ∀ h, i ≠ .decode h
  · exact .inr ⟨i, notDecode, rfl, fun _ => rfl⟩
  · obtain ⟨handle, rfl⟩ : ∃ h, i = .decode h := by simpa using notDecode
    rcases exec_decode_cases handle with ⟨invalid, null⟩ | ⟨row, -, notDecode, use, run⟩
    · exact .inl ⟨handle, rfl, invalid, null⟩
    · exact .inr ⟨row, notDecode, use, run⟩

/-! ## What an instruction of a row other than DECODE can do -/

/-- The answer of such an instruction: HALTED, or, where PFC is not halted, a response, PRECONDITION in debug mode, or a
stuck read. -/
inductive RowShape (s : State) : Result → Prop
  | halted (faulted : s.faulted = true) : RowShape s (.next (s.respond {}))
  | responded (ready : s.faulted = false) (r : Response) (n : Nat) : RowShape s (.next ((s.respond r).advanceDraws n))
  | violated (ready : s.faulted = false) (debug : s.params.debugAssert = true) : RowShape s (raiseFault .precondition s)
  | stuck (ready : s.faulted = false) : RowShape s (.fault .stuckUnadmittedRead)

theorem RowShape.respond {s : State} (ready : s.faulted = false) (r : Response) : RowShape s (.next (s.respond r)) :=
  .responded ready r 0

theorem RowShape.transact {s : State} {body : Result} (h : s.faulted = false → RowShape s body) :
    RowShape s (transact s body) := by
  cases hf : s.faulted with
  | false => rw [transact_ready hf]; exact h hf
  | true => rw [transact_halted hf]; exact .halted hf

theorem RowShape.checked {s : State} (ready : s.faulted = false) {ok : Bool} {violated body : Result}
    (hv : RowShape s violated) (hb : RowShape s body) : RowShape s (checked ok s violated body) := by
  cases ok with
  | true => exact hb
  | false =>
    cases debug : s.params.debugAssert with
    | true => rw [checked_debug debug]; exact .violated ready debug
    | false => rw [checked_release debug]; exact hv

theorem RowShape.withPixel {s : State} (ready : s.faulted = false) {fmt : PixelFormat} {body : Word → Result}
    (hb : ∀ v, RowShape s (body v)) : RowShape s (withPixel fmt s body) := by
  cases read : s.memRead s.req.addr fmt.readWidth with
  | none => rw [withPixel_stuck read]; exact .stuck ready
  | some v => rw [withPixel_read read]; exact hb v

theorem RowShape.decodeRoutine (fmt : PixelFormat) (s : State) (k : Word → Response) :
    RowShape s (decodeRoutine fmt s k) :=
  .transact fun ready => .withPixel ready fun _ => .respond ready _

theorem RowShape.decodeMonoRoutine (s : State) (n : Nat) (drawn : Response) (lit : Bool → Response) :
    RowShape s (decodeMonoRoutine s n drawn lit) :=
  .transact fun ready => .checked ready (.withPixel ready fun _ => .responded ready _ n)
    (.withPixel ready fun _ => .respond ready _)

theorem exec_rowShape {i : Instr} (row : ∀ h, i ≠ .decode h) (s : State) : RowShape s (exec i s) := by
  cases i with
  | decode h => exact absurd rfl (row h)
  | hasAlpha _ | byteWidth _ | lookup _ _ | cvtRgbTo565 | cvt565ToRgb | cvt888To565 | cvt565To888 | cvt8888To565A8
  | cvt8888To565A5 | cvt8565To8888 | cvtGrayTo565 | cvtGrayTo888 | cvt565ToGray | cvt888ToGray | cvtMonoTo565
  | cvtMonoTo888 | cvt565ToMono | cvt888ToMono | blend565A8 | prep565 | blend888 | prep888 | blendargb =>
    exact .transact fun ready => .respond ready _
  | blend565 | blend565p | blend565pA8 | blend888p =>
    exact .transact fun ready => .checked ready (.responded ready _ 1) (.respond ready _)
  | decode565A5Mono | decode565A8Mono | decodeArgbMono | decodePacked32Mono =>
    dsimp only [exec, execDecode565A5Mono, execDecode565A8Mono, execDecodeArgbMono, execDecodePacked32Mono]
    exact .decodeMonoRoutine s _ _ _
  | _ => exact .decodeRoutine _ s _

/-! ## STATUS and the response -/

/-- In the halted state a row answers HALTED (R227). -/
theorem RowShape.eq_of_halted {s : State} {o : Result} (h : RowShape s o) (faulted : s.faulted = true) :
    o = .next (s.respond {}) := by
  cases h with
  | halted => rfl
  | responded ready | violated ready | stuck ready => rw [faulted] at ready; cases ready

theorem exec_halted {s : State} (faulted : s.faulted = true) (i : Instr) : exec i s = .next (s.respond {}) := by
  rcases exec_cases i with ⟨-, -, -, null⟩ | ⟨row, notDecode, -, run⟩
  · rw [null, nullDecoder, transact_halted faulted]
  · rw [run]; exact (exec_rowShape notDecode s).eq_of_halted faulted

theorem answer_halted {s : State} (faulted : s.faulted = true) : answer s = .next (s.respond {}) := by
  cases dec : decodeCmd s.req.cmd with
  | command i => rw [answer_command dec, exec_halted faulted]
  | illegal why => rw [answer_illegal dec, illegalCommand, transact_halted faulted]

/-- A row writes STATUS only by PRECONDITION in debug mode. -/
theorem RowShape.status {s t : State} (h : RowShape s (.next t)) :
    t.status = s.status ∨ (s.faulted = false ∧ s.params.debugAssert = true ∧ t.status = 0x07#8) := by
  generalize e : Host.Outcome.next t = o at h
  cases h with
  | halted | responded => cases e; exact .inl rfl
  | violated ready debug => cases e; exact .inr ⟨ready, debug, rfl⟩
  | stuck => cases e

/-- Settles O16: a DECODE is NULL_DECODER or a row, and a row can raise PRECONDITION alone. -/
theorem execWritesStatusOnlyByAFault : Obligations.ExecWritesStatusOnlyByAFault := by
  intro i s t h
  rcases exec_cases i with ⟨handle, decode, invalid, null⟩ | ⟨row, notDecode, -, run⟩
  · cases hf : s.faulted with
    | true => rw [exec_halted hf] at h; cases h; exact .inl rfl
    | false =>
      rw [null, nullDecoder, transact_ready hf] at h
      cases h
      exact .inr ⟨rfl, .inl ⟨handle, decode, by simp [← validHandle_iff, invalid], rfl⟩⟩
  · have shape : RowShape s (.next t) := h ▸ run s ▸ exec_rowShape notDecode s
    exact shape.status.imp id fun ⟨ready, precondition⟩ => ⟨ready, .inr precondition⟩

/-- The reserved bits of STATUS read as 0 (R27). -/
theorem State.statusRead_reserved (s : State) : s.statusRead.extractLsb' 4 4 = 0#4 := by
  unfold State.statusRead; generalize s.status = v; revert v; decide

/-- An answer with FAULT = 1 drives STATUS alone: it is HALTED or a fault entered now. -/
theorem answer_faulted {s t : State} (h : answer s = .next t) (faulted : t.faulted = true) :
    t.rsp = { status := some t.statusRead } := by
  cases hf : s.faulted with
  | true => rw [answer_halted hf] at h; cases h; rfl
  | false =>
    rcases answer_next h with ⟨r, n, rfl⟩ | ⟨-, c, rfl⟩
    · exact absurd (hf.symm.trans faulted) nofun
    · rfl

/-- Settles O17: every answer drives STATUS, whose reserved bits read 0, and one with FAULT = 1 drives nothing else. -/
theorem everyAnswerDrivesStatus : Obligations.EveryAnswerDrivesStatus :=
  fun _ t h => ⟨answer_drives_status h, t.statusRead_reserved, answer_faulted h⟩

/-! ## States that differ in what no answer depends on -/

/-- Two states with the same STATUS, parameters and draws, whose bytes read the same; their requests may differ. -/
structure Alike (s t : State) : Prop where
  status : s.status = t.status
  params : s.params = t.params
  draws : s.draws = t.draws
  bytes : ∀ a, s.readByte a = t.readByte a

section
variable {s t : State} (h : Alike s t)
include h

theorem Alike.statusRead : s.statusRead = t.statusRead := by rw [State.statusRead, State.statusRead, h.status]

theorem Alike.faulted : s.faulted = t.faulted := by rw [State.faulted, State.faulted, h.status]

theorem Alike.respondDrawn (n : Nat) {r r' : Response} (e : r = r') :
    SameAnswer (respondDrawn n r s) (respondDrawn n r' t) :=
  ⟨by simp [e, h.statusRead], h.status, by simp [h.draws]⟩

theorem Alike.respond {r r' : Response} (e : r = r') : SameAnswer (.next (s.respond r)) (.next (t.respond r')) :=
  h.respondDrawn 0 e

theorem Alike.raiseFault (c : Cause) : SameAnswer (raiseFault c s) (raiseFault c t) :=
  ⟨rfl, rfl, h.draws⟩

theorem Alike.transact {body body' : Result} (hb : SameAnswer body body') :
    SameAnswer (transact s body) (transact t body') := by
  cases hf : t.faulted with
  | true => rw [transact_halted hf, transact_halted (h.faulted.trans hf)]; exact h.respond rfl
  | false => rw [transact_ready hf, transact_ready (h.faulted.trans hf)]; exact hb

theorem Alike.checked {ok ok' : Bool} (e : ok = ok') {violated violated' body body' : Result}
    (hv : SameAnswer violated violated') (hb : SameAnswer body body') :
    SameAnswer (checked ok s violated body) (checked ok' t violated' body') := by
  subst e
  cases ok with
  | true => exact hb
  | false =>
    cases debug : t.params.debugAssert with
    | true => rw [checked_debug debug, checked_debug (by rw [h.params, debug])]; exact h.raiseFault .precondition
    | false => rw [checked_release debug, checked_release (by rw [h.params, debug])]; exact hv

theorem Alike.withPixel (addr : s.req.addr = t.req.addr) (fmt : PixelFormat) {body body' : Word → Result}
    (hb : ∀ v, SameAnswer (body v) (body' v)) : SameAnswer (withPixel fmt s body) (withPixel fmt t body') := by
  have same : s.memRead s.req.addr fmt.readWidth = t.memRead t.req.addr fmt.readWidth := by
    rw [State.memRead_congr h.params h.bytes, addr]
  cases read : t.memRead t.req.addr fmt.readWidth with
  | none => rw [withPixel_stuck read, withPixel_stuck (same.trans read)]; rfl
  | some v => rw [withPixel_read read, withPixel_read (same.trans read)]; exact hb v

theorem Alike.convert {r r' : Response} (e : r = r') : SameAnswer (convert s r) (convert t r') :=
  h.transact (h.respond e)

theorem Alike.drawn565 : SameAnswer (drawn565 s) (drawn565 t) := h.respondDrawn 1 (by rw [h.draws])

theorem Alike.decodeRoutine (addr : s.req.addr = t.req.addr) (fmt : PixelFormat) {k k' : Word → Response}
    (e : ∀ v, k v = k' v) : SameAnswer (decodeRoutine fmt s k) (decodeRoutine fmt t k') :=
  h.transact (h.withPixel addr fmt fun v => h.respond (e v))

theorem Alike.decodeMonoRoutine (addr : s.req.addr = t.req.addr) (bitix : s.req.bitix = t.req.bitix) (n : Nat)
    {drawn drawn' : Response} {lit lit' : Bool → Response} (ed : drawn = drawn') (el : ∀ m, lit m = lit' m) :
    SameAnswer (decodeMonoRoutine s n drawn lit) (decodeMonoRoutine t n drawn' lit') :=
  h.transact (h.checked (by rw [bitix]) (h.withPixel addr .mono fun _ => h.respondDrawn n ed)
    (h.withPixel addr .mono fun _ => h.respond (by rw [bitix, el])))

theorem Alike.nullDecoder : SameAnswer (nullDecoder s) (nullDecoder t) := h.transact (h.raiseFault .nullDecoder)

theorem Alike.illegalCommand : SameAnswer (illegalCommand s) (illegalCommand t) :=
  h.transact (h.raiseFault .illegalCommand)

end

/-! ## What a field of an operand depends on -/

section
variable {v w : Word} {n : Nat} (low : v.toNat % 2 ^ n = w.toNat % 2 ^ n)
include low

theorem getLsbD_congr {j : Nat} (hj : j < n) : v.getLsbD j = w.getLsbD j := by
  have bit := congrArg (Nat.testBit · j) low
  simpa [Nat.testBit_mod_two_pow, hj, BitVec.getLsbD] using bit

/-- A field below bit `n` is the same in two words that agree below bit `n`. -/
theorem field_congr (lo len : Nat) (fits : lo + len ≤ n) : v.extractLsb' lo len = w.extractLsb' lo len := by
  apply BitVec.eq_of_getLsbD_eq
  intro j hj
  simp only [BitVec.getLsbD_extractLsb', hj, getLsbD_congr low (show lo + j < n by omega)]

/-- So are the words under a mask below bit `n`. -/
theorem mask_congr {m : Word} (fits : m.toNat < 2 ^ n) : v &&& m = w &&& m := by
  have bits (x : Word) : (x &&& m).toNat = (x.toNat % 2 ^ n) &&& (m.toNat % 2 ^ n) := by
    rw [← Nat.and_mod_two_pow, BitVec.toNat_and, Nat.mod_eq_of_lt (Nat.and_lt_two_pow _ fits)]
  exact BitVec.eq_of_toNat_eq (by rw [bits, bits, low])

theorem low16_congr (fits : 16 ≤ n) : low16 v = low16 w := field_congr low 0 16 fits

theorem redBlueWord_congr (fits : 24 ≤ n) : redBlueWord v = redBlueWord w :=
  mask_congr low (Nat.lt_of_lt_of_le (by decide) (Nat.pow_le_pow_right (by decide) fits))

theorem greenWord_congr (fits : 24 ≤ n) : greenWord v = greenWord w :=
  mask_congr low (Nat.lt_of_lt_of_le (by decide) (Nat.pow_le_pow_right (by decide) fits))

/-- The core blend reads 24 bits of its background. -/
theorem blend888core_congr (fits : 24 ≤ n) (frb fg : Word) (alpha : Byte) :
    blend888core frb fg v alpha = blend888core frb fg w alpha := by
  rw [blend888core, blend888core, redBlueWord_congr low fits, greenWord_congr low fits]

theorem lanesTo565_congr (fits : 24 ≤ n) : lanesTo565 v = lanesTo565 w := by
  simp only [lanesTo565, laneR, laneG, laneB, field_congr low 16 8 (by omega), field_congr low 8 8 (by omega),
    field_congr low 0 8 (by omega)]

theorem redBlueOfLanes_congr (fits : 24 ≤ n) : redBlueOfLanes v = redBlueOfLanes w := by
  simp only [redBlueOfLanes, laneR, laneB, field_congr low 16 8 (by omega), field_congr low 0 8 (by omega)]

theorem greenOfLanes_congr (fits : 24 ≤ n) : greenOfLanes v = greenOfLanes w := by
  simp only [greenOfLanes, laneG, field_congr low 8 8 (by omega)]

end

theorem word_congr {v w : Word} (low : v.toNat % 2 ^ 32 = w.toNat % 2 ^ 32) : v = w :=
  BitVec.eq_of_toNat_eq (by have := v.isLt; have := w.isLt; omega)

/-! ## Two requests that agree on what a command names -/

theorem Alike.exec_row {s t : State} (h : Alike s t) {i : Instr} (row : ∀ handle, i ≠ .decode handle)
    (same : sameOperands (operandUse i) s.req t.req) : SameAnswer (exec i s) (exec i t) := by
  obtain ⟨a, b, c, alpha, adef, bitix, addr⟩ := same
  cases i with
  | decode handle => exact absurd rfl (row handle)
  | hasAlpha _ | byteWidth _ | lookup _ _ => exact h.transact (h.respond rfl)
  | cvt565ToRgb | cvt565To888 | cvt565ToGray | cvt565ToMono => exact h.convert (by rw [low16_congr a (by decide)])
  | cvtRgbTo565 | cvt888To565 => exact h.convert (by rw [lanesTo565_congr a (by decide)])
  | cvt8565To8888 =>
    have alpha8 : argb8565Alpha s.req.a = argb8565Alpha t.req.a := field_congr a 16 8 (by decide)
    exact h.convert (by rw [alpha8, low16_congr a (by decide)])
  | cvt888ToGray | cvt888ToMono =>
    have a24 : low24 s.req.a = low24 t.req.a := field_congr a 0 24 (by decide)
    exact h.convert (by rw [a24])
  | cvt8888To565A8 | cvt8888To565A5 => exact h.convert (by rw [word_congr a])
  | cvtGrayTo565 | cvtGrayTo888 =>
    have a8 : laneB s.req.a = laneB t.req.a := field_congr a 0 8 (by decide)
    exact h.convert (by rw [a8])
  | cvtMonoTo565 | cvtMonoTo888 => exact h.convert (by rw [getLsbD_congr a (j := 0) (by decide)])
  | blend565 =>
    exact h.transact (h.checked (by rw [alpha rfl]) h.drawn565
      (h.respond (by rw [h.params, low16_congr a (by decide), low16_congr b (by decide), alpha rfl])))
  | blend565A8 =>
    exact h.transact (h.respond (by rw [h.params, low16_congr a (by decide), low16_congr b (by decide), alpha rfl]))
  | prep565 => exact h.transact (h.respond (by rw [h.params, low16_congr a (by decide)]))
  | blend565p | blend565pA8 =>
    have prepared : prepared565 s = prepared565 t := by rw [prepared565, prepared565, word_congr a, h.params]
    exact h.transact (h.checked (by simp only [alpha rfl, prepared]) h.drawn565
      (h.respond (by rw [h.params, word_congr a, low16_congr b (by decide), alpha rfl])))
  | blend888 =>
    exact h.transact (h.respond (by
      rw [redBlueWord_congr a (by decide), greenWord_congr a (by decide), blend888core_congr b (by decide), alpha rfl]))
  | prep888 =>
    exact h.transact (h.respond (by rw [redBlueWord_congr a (by decide), greenWord_congr a (by decide)]))
  | blend888p =>
    have prepared : prepared888 s = prepared888 t := by rw [prepared888, prepared888, word_congr a, word_congr c]
    exact h.transact (h.checked prepared (h.respondDrawn 1 (by rw [h.draws]))
      (h.respond (by rw [word_congr a, word_congr c, blend888core_congr b (by decide), alpha rfl])))
  | blendargb =>
    exact h.transact (h.respond (by
      rw [redBlueOfLanes_congr a (by decide), redBlueOfLanes_congr b (by decide), greenOfLanes_congr a (by decide),
        greenOfLanes_congr b (by decide), alpha rfl]))
  | decode565A5Rgb565 | decode565A5Rgb888 | decode565A5Grayscale | decode565A8Rgb565 | decode565A8Rgb888
  | decode565A8Grayscale | decodeArgbRgb565 | decodeArgbRgb888 | decodeArgbGrayscale | decodePacked32Rgb565
  | decodePacked32Grayscale => exact h.decodeRoutine (addr rfl) _ fun v => by rw [adef rfl]
  | decode565A5Mono | decode565A8Mono | decodeArgbMono | decodePacked32Mono =>
    dsimp only [exec, execDecode565A5Mono, execDecode565A8Mono, execDecodeArgbMono, execDecodePacked32Mono]
    exact h.decodeMonoRoutine (addr rfl) (bitix rfl) _ (by rw [adef rfl, h.draws]) fun m => by rw [adef rfl]
  | _ => exact h.decodeRoutine (addr rfl) _ fun v => rfl

theorem Alike.exec {s t : State} (h : Alike s t) {i : Instr} (same : sameOperands (operandUse i) s.req t.req) :
    SameAnswer (exec i s) (exec i t) := by
  rcases exec_cases i with ⟨-, -, -, null⟩ | ⟨row, notDecode, use, run⟩
  · rw [null, null]; exact h.nullDecoder
  · rw [run, run]; exact h.exec_row notDecode (use ▸ same)

theorem sameOperands_refl (u : OperandUse) (r : Request) : sameOperands u r r :=
  ⟨rfl, rfl, rfl, fun _ => rfl, fun _ => rfl, fun _ => rfl, fun _ => rfl⟩

/-- Settles O19: two states with one request agree on all that its command names. -/
theorem answerDependsOnlyOnRequestStatusAndBytes : Obligations.AnswerDependsOnlyOnRequestStatusAndBytes := by
  intro s t req status params draws bytes
  have h : Alike s t := ⟨status, params, draws, bytes⟩
  cases dec : decodeCmd t.req.cmd with
  | command i =>
    rw [answer_command dec, answer_command (req ▸ dec)]
    exact h.exec (req ▸ sameOperands_refl _ _)
  | illegal why =>
    rw [answer_illegal dec, answer_illegal (req ▸ dec)]
    exact h.illegalCommand

/-- Settles O55: a state with another request presented reads every byte the same. -/
theorem unnamedOperandBitsAreIgnored : Obligations.UnnamedOperandBitsAreIgnored :=
  fun _ s q same => Alike.exec (s := s) (t := { s with req := q }) ⟨rfl, rfl, rfl, fun _ => rfl⟩ same

end Sys2Proof.Machine
end

section
/-! Proofs about pixel memory (spec/20_memory.md R40-R57): what a read gives, which instructions read, which transactions
are stuck, and that no instruction writes. -/

namespace Sys2Proof.Machine
open Sys2Proof.Claims

/-! ## No instruction writes pixel memory -/

/-- An answer that is a next state changes STATUS, the response and the draws alone, and takes no draw back. -/
theorem AnswerShape.frame {s t : State} (h : AnswerShape s (.next t)) :
    ∃ v r d, s.draws ≤ d ∧ t = { s with status := v, rsp := r, draws := d } := by
  generalize e : Host.Outcome.next t = o at h
  cases h with
  | responded r n => cases e; exact ⟨_, _, _, Nat.le_add_right _ n, rfl⟩
  | entered c ready => cases e; exact ⟨_, _, _, Nat.le_refl _, rfl⟩
  | stuck ready => cases e

/-- Settles O15: every answer has an `AnswerShape`, and such an answer changes neither memory nor what the read port
depends on. -/
theorem execFrame : Obligations.ExecFrame := by
  intro i s t h
  obtain ⟨v, r, d, drawn, rfl⟩ := AnswerShape.frame (h ▸ exec_shape i s)
  exact ⟨fun _ => rfl, fun _ => rfl, rfl, rfl, rfl, rfl, rfl, rfl, rfl, rfl, rfl, drawn⟩

/-! ## One byte: its stored value, or the value of a write that races it -/

/-- Writes to other addresses do not race a read. -/
theorem raceByte_unraced {t w a : Nat} (k : Nat) {ws : List Host.Cell} (old : Byte)
    (other : ∀ c ∈ ws, c.1 % 2 ^ w ≠ a) : raceByte t w a k ws old = old := by
  induction ws generalizing k with
  | nil => rfl
  | cons c ws ih =>
    obtain ⟨head, tail⟩ := List.forall_mem_cons.mp other
    rw [raceByte, if_neg head, ih (k + 1) tail]

theorem State.readByte_admitted {s : State} {a : Nat} (h : s.admits a = true) :
    s.readByte a = some (raceByte s.index s.params.addrWidth a 0 s.racing (s.mem.readByte a)) :=
  if_pos h

/-- Settles O23: `raceByte_unraced` where no write races the byte, `raceByte_mem` where one does. -/
theorem racingByteReadsOldOrNew : Obligations.RacingByteReadsOldOrNew := by
  intro s a
  refine ⟨(s.readByte_eq_none_iff a).mpr, fun admitted => ?_⟩
  rw [State.readByte_admitted admitted]
  exact ⟨fun other => by rw [raceByte_unraced 0 _ other], _, rfl, raceByte_mem ..⟩

/-! ## The bytes of a pixel and the integer they form -/

/-- The bytes of a pixel, in order of increasing address (R43). -/
theorem State.readBytes_eq {s : State} {addr n : Nat} {f : Nat → Byte}
    (read : ∀ i < n, s.readByte (s.byteAddr (addr + i)) = some (f i)) :
    s.readBytes addr n = some ((List.range n).map f) := by
  induction n with
  | zero => rfl
  | succ n ih =>
    have first := ih fun i hi => read i (Nat.lt_succ_of_lt hi)
    simp only [State.readBytes, first, read n (Nat.lt_succ_self n), List.range_succ, List.map_append, List.map_cons,
      List.map_nil]

/-- A byte moved up to the bits from `k` on, as a number; it stays inside the word. -/
theorem placedByte_toNat (b : Byte) {k : Nat} (fits : k ≤ 24) : (b.zeroExtend 32 <<< k).toNat = b.toNat * 2 ^ k := by
  have inside : b.toNat * 2 ^ k < 2 ^ 32 := by
    calc b.toNat * 2 ^ k < 2 ^ 8 * 2 ^ k := Nat.mul_lt_mul_of_pos_right b.isLt (Nat.two_pow_pos k)
      _ = 2 ^ (8 + k) := (Nat.pow_add ..).symm
      _ ≤ 2 ^ 32 := Nat.pow_le_pow_right (by decide) (by omega)
  rw [BitVec.toNat_shiftLeft, BitVec.zeroExtend_eq_setWidth, BitVec.toNat_setWidth_of_le (by decide), Nat.shiftLeft_eq,
    Nat.mod_eq_of_lt inside]

/-- A byte below bits that are all from bit `k + 8` on: or is sum. -/
theorem placedByte_or_above (b : Byte) {k rest : Nat} (above : 2 ^ (k + 8) ∣ rest) :
    (b.toNat * 2 ^ k) ||| rest = b.toNat * 2 ^ k + rest := by
  obtain ⟨q, rfl⟩ := above
  have below : b.toNat * 2 ^ k < 2 ^ (k + 8) := by
    rw [Nat.pow_add, Nat.mul_comm]
    exact Nat.mul_lt_mul_of_pos_left b.isLt (Nat.two_pow_pos k)
  rw [Nat.or_comm, ← Nat.two_pow_add_eq_or_of_lt below, Nat.add_comm]

/-- The bytes from `i` on in LE order stand from bit `8i` on. -/
theorem leSum_dvd (f : Nat → Byte) (i m : Nat) :
    2 ^ (8 * i) ∣ ((List.range' i m).map fun j => (f j).toNat * 2 ^ (8 * j)).sum := by
  induction m generalizing i with
  | zero => exact Nat.dvd_zero _
  | succ m ih =>
    rw [List.range'_succ, List.map_cons, List.sum_cons]
    have rest : 2 ^ (8 * i) ∣ 2 ^ (8 * (i + 1)) := Nat.pow_dvd_pow 2 (by omega)
    exact Nat.dvd_add (Nat.dvd_mul_left _ _) (Nat.dvd_trans rest (ih (i + 1)))

/-- LE: byte `j` counts 2^(8j) times (R42). -/
theorem placeBytes_le_toNat (f : Nat → Byte) (n i m : Nat) (fits : i + m ≤ 4) :
    (placeBytes .le n i ((List.range' i m).map f)).toNat =
      ((List.range' i m).map fun j => (f j).toNat * 2 ^ (8 * j)).sum := by
  induction m generalizing i with
  | zero => rfl
  | succ m ih =>
    have above := leSum_dvd f (i + 1) m
    simp only [List.range'_succ, List.map_cons, List.sum_cons, placeBytes, byteShift, BitVec.toNat_or,
      placedByte_toNat (f i) (k := 8 * i) (by omega), ih (i + 1) (by omega), placedByte_or_above (f i) (k := 8 * i) above]

/-- The last `m` of `n` bytes in BE order stand below bit `8m`. -/
theorem beSum_lt (f : Nat → Byte) {n i m : Nat} (last : i + m = n) :
    ((List.range' i m).map fun j => (f j).toNat * 2 ^ (8 * (n - 1 - j))).sum < 2 ^ (8 * m) := by
  induction m generalizing i with
  | zero => exact Nat.one_pos
  | succ m ih =>
    have rest := ih (i := i + 1) (by omega)
    have top : (f i).toNat * 2 ^ (8 * m) ≤ 255 * 2 ^ (8 * m) := Nat.mul_le_mul_right _ (Nat.le_of_lt_succ (f i).isLt)
    have split : 2 ^ (8 * (m + 1)) = 256 * 2 ^ (8 * m) := by rw [Nat.mul_succ, Nat.pow_add, Nat.mul_comm]
    rw [List.range'_succ, List.map_cons, List.sum_cons, show n - 1 - i = m by omega]
    omega

/-- BE: byte `j` of `n` counts 2^(8(n - 1 - j)) times (R42). -/
theorem placeBytes_be_toNat (f : Nat → Byte) {n : Nat} (i m : Nat) (last : i + m = n) (fits : m ≤ 4) :
    (placeBytes .be n i ((List.range' i m).map f)).toNat =
      ((List.range' i m).map fun j => (f j).toNat * 2 ^ (8 * (n - 1 - j))).sum := by
  induction m generalizing i with
  | zero => rfl
  | succ m ih =>
    have below := beSum_lt f (i := i + 1) (m := m) (n := n) (by omega)
    simp only [List.range'_succ, List.map_cons, List.sum_cons, placeBytes, byteShift, BitVec.toNat_or,
      ih (i + 1) (by omega) (by omega), show n - 1 - i = m by omega, placedByte_toNat (f i) (k := 8 * m) (by omega)]
    rw [← shift_or_toNat _ _ _ below, Nat.shiftLeft_eq]

/-- The parameters never change (R8). -/
theorem step_params {s t : State} (h : step s = .next t) : t.params = s.params := by
  cases step_shape h with
  | idle | issued | issuedAbandoned | reset | responded | entered | abandoned | received => rfl
  | wrote | completed => simp

/-- Settles O21: `State.readBytes_eq` gives the bytes, `placeBytes_le_toNat` and `placeBytes_be_toNat` their integer. -/
theorem pixelBytesFormTheirInteger : Obligations.PixelBytesFormTheirInteger := by
  intro s addr n f _ width read
  have value : s.memRead addr n = some (placeBytes s.params.byteOrder n 0 ((List.range n).map f)) := by
    rw [State.memRead, State.readBytes_eq read, Option.map_some]
  refine ⟨_, value, fun le => ?_, fun be => ?_, fun _ => step_params⟩
  · rw [le, List.range_eq_range', placeBytes_le_toNat f n 0 n (by omega)]
  · rw [be, List.range_eq_range', placeBytes_be_toNat f 0 n (by omega) width]

/-! ## A DECODE is stuck exactly where its pixel is not admitted -/

section
variable {s : State} {fmt : PixelFormat}

/-- A pixel read that goes on to a next state is stuck exactly where a byte is not admitted. -/
theorem withPixel_stuck_iff {body : Word → State} :
    withPixel fmt s (fun v => .next (body v)) = .fault .stuckUnadmittedRead ↔ ¬ bytesAdmitted s fmt.readWidth := by
  have admitted_iff : (s.memRead s.req.addr fmt.readWidth).isSome = true ↔ bytesAdmitted s fmt.readWidth :=
    s.memRead_isSome_iff s.req.addr fmt.readWidth
  rw [← admitted_iff]
  cases read : s.memRead s.req.addr fmt.readWidth with
  | none => simp [withPixel_stuck read]
  | some v => simp [withPixel_read read]

theorem decodeRoutine_stuck_iff (ready : s.Ready) (k : Word → Response) :
    decodeRoutine fmt s k = .fault .stuckUnadmittedRead ↔ ¬ bytesAdmitted s fmt.readWidth := by
  rw [decodeRoutine, transact_ready ready, withPixel_stuck_iff]

theorem decodeMonoRoutine_stuck_iff (ready : s.Ready) (bitix : s.req.bitix.toNat ≤ 7) (n : Nat) (drawn : Response)
    (lit : Bool → Response) : decodeMonoRoutine s n drawn lit = .fault .stuckUnadmittedRead ↔
      ¬ bytesAdmitted s PixelFormat.mono.readWidth := by
  have ok : decide (s.req.bitix ≤ 7#8) = true := decide_eq_true bitix
  rw [decodeMonoRoutine, transact_ready ready, ok, checked_true, withPixel_stuck_iff]

/-- The read width of R44, by the code of the format and by the format. -/
theorem widthOf_code (decodable : fmt.decodable = true) : widthOf fmt.code.toNat = fmt.readWidth := by
  cases fmt with
  | unknown | indexed => cases decodable
  | rgb565 | argb4444 | argb6666 | argb8565 | rgb888 | argb8888 | mono | grayscale => rfl

/-- For Mono, every representation has a Mono routine (R102). -/
theorem runRoutine_mono (rep : TargetRep) (s : State) :
    ∃ n drawn lit, runRoutine rep .mono s = decodeMonoRoutine s n drawn lit := by
  cases rep with
  | to565A5 | to565A8 | toArgb | toPacked32 =>
    dsimp only [runRoutine, runTo565A5, runTo565A8, runToArgb, runToPacked32, execDecode565A5Mono, execDecode565A8Mono,
      execDecodeArgbMono, execDecodePacked32Mono]
    exact ⟨_, _, _, rfl⟩

theorem runRoutine_stuck_iff (rep : TargetRep) (decodable : fmt.decodable = true) (ready : s.Ready)
    (bitix : fmt = .mono → s.req.bitix.toNat ≤ 7) :
    runRoutine rep fmt s = .fault .stuckUnadmittedRead ↔ ¬ bytesAdmitted s fmt.readWidth := by
  cases fmt with
  | unknown | indexed => cases decodable
  | mono =>
    obtain ⟨n, drawn, lit, run⟩ := runRoutine_mono rep s
    rw [run]
    exact decodeMonoRoutine_stuck_iff ready (bitix rfl) n drawn lit
  | rgb565 | argb4444 | argb6666 | argb8565 | rgb888 | argb8888 | grayscale =>
    cases rep <;> exact decodeRoutine_stuck_iff ready _

end

/-- The rows of R83 are those of the handle table. -/
theorem routineRows_lookup : ∀ p ∈ routineRows,
    handleTable.lookup (BitVec.ofNat 8 (0x40 + 16 * p.1 + p.2.1)) = some p.2.2 := by
  decide

/-- The handle of a row stands for the format of the row's code (R66). -/
theorem routineRows_target : ∀ p ∈ routineRows,
    (handleTarget? (BitVec.ofNat 8 (0x40 + 16 * p.1 + p.2.1))).map (fun target => target.2.code.toNat) = some p.2.1 := by
  decide

/-- The row of a valid handle runs the routine of the handle's target, and so does DECODE of the handle. -/
theorem routineRows_run {rep fmt : Nat} {row : Instr} (h : (rep, fmt, row) ∈ routineRows) :
    ∃ (target : TargetRep) (format : PixelFormat), format.decodable = true ∧ format.code.toNat = fmt ∧
      ∀ s, exec row s = runRoutine target format s ∧
        exec (.decode (BitVec.ofNat 8 (0x40 + 16 * rep + fmt))) s = runRoutine target format s := by
  obtain ⟨⟨target, format⟩, valid, code⟩ := Option.map_eq_some_iff.mp (routineRows_target _ h)
  obtain ⟨handle_eq, decodable⟩ := handleTarget?_sound _ _ valid
  obtain ⟨row', lookup, -, -, run⟩ := runRoutine_row target decodable
  rw [← handle_eq, routineRows_lookup _ h] at lookup
  obtain rfl : row = row' := Option.some.inj lookup
  exact ⟨target, format, decodable, code, fun s => ⟨(run s).symm, execDecode_valid valid s⟩⟩

/-- Settles O22: a row and DECODE of its handle are one routine, which is stuck exactly where its pixel is not admitted. -/
theorem unadmittedReadIsStuck : Obligations.UnadmittedReadIsStuck := by
  intro s rep fmt row h ready bitix
  obtain ⟨target, format, decodable, rfl, run⟩ := routineRows_run h
  rw [(run s).1, (run s).2, widthOf_code decodable]
  have stuck := runRoutine_stuck_iff target decodable ready fun mono => bitix (by rw [mono]; rfl)
  exact ⟨stuck, stuck⟩

/-! ## Only DECODE reads pixel memory -/

/-- The state with other pixel memory, another memory map and other racing writes. -/
def State.withPixelMemory (m : Memory) (g : List Region) (ws : List Host.Cell) (s : State) : State :=
  { s with mem := m, admitted := g, racing := ws }

/-- The same answer, and a next state: neither is stuck. -/
def CompleteAlike (o o' : Result) : Prop := SameAnswer o o' ∧ ∃ t, o = .next t

section
variable {m : Memory} {g : List Region} {ws : List Host.Cell} {s : State}

theorem CompleteAlike.respondDrawn (n : Nat) (r : Response) :
    CompleteAlike (respondDrawn n r s) (respondDrawn n r (s.withPixelMemory m g ws)) :=
  ⟨⟨rfl, rfl, rfl⟩, _, rfl⟩

theorem CompleteAlike.respond (r : Response) :
    CompleteAlike (.next (s.respond r)) (.next ((s.withPixelMemory m g ws).respond r)) :=
  .respondDrawn 0 r

theorem CompleteAlike.raiseFault (c : Cause) :
    CompleteAlike (raiseFault c s) (raiseFault c (s.withPixelMemory m g ws)) :=
  ⟨⟨rfl, rfl, rfl⟩, _, rfl⟩

theorem CompleteAlike.transact {body body' : Result} (h : CompleteAlike body body') :
    CompleteAlike (transact s body) (transact (s.withPixelMemory m g ws) body') := by
  cases hf : s.faulted with
  | true => rw [transact_halted hf, transact_halted (s := s.withPixelMemory m g ws) hf]; exact .respond {}
  | false => rw [transact_ready hf, transact_ready (s := s.withPixelMemory m g ws) hf]; exact h

theorem CompleteAlike.checked (ok : Bool) {violated violated' body body' : Result}
    (hv : CompleteAlike violated violated') (hb : CompleteAlike body body') :
    CompleteAlike (checked ok s violated body) (checked ok (s.withPixelMemory m g ws) violated' body') := by
  cases ok with
  | true => exact hb
  | false =>
    cases debug : s.params.debugAssert with
    | true =>
      rw [checked_debug debug, checked_debug (s := s.withPixelMemory m g ws) debug]
      exact .raiseFault .precondition
    | false => rw [checked_release debug, checked_release (s := s.withPixelMemory m g ws) debug]; exact hv

/-- Registry, conversions and blends check and respond from the request, STATUS, the parameters and the draws. -/
theorem CompleteAlike.exec {i : Instr} (notDecode : ∀ h, i ≠ .decode h)
    (notRow : i ∉ routineRows.map fun row => row.2.2) :
    CompleteAlike (exec i s) (exec i (s.withPixelMemory m g ws)) := by
  cases i with
  | decode h => exact absurd rfl (notDecode h)
  | hasAlpha _ | byteWidth _ | lookup _ _ | cvtRgbTo565 | cvt565ToRgb | cvt888To565 | cvt565To888 | cvt8888To565A8
  | cvt8888To565A5 | cvt8565To8888 | cvtGrayTo565 | cvtGrayTo888 | cvt565ToGray | cvt888ToGray | cvtMonoTo565
  | cvtMonoTo888 | cvt565ToMono | cvt888ToMono | blend565A8 | prep565 | blend888 | prep888 | blendargb =>
    exact .transact (.respond _)
  | blend565 | blend565p | blend565pA8 | blend888p =>
    exact .transact (.checked _ (.respondDrawn 1 _) (.respond _))
  | _ => exact absurd (by decide) notRow

end

/-- Settles O18: an instruction that is neither DECODE nor a routine's row answers without a pixel read. -/
theorem onlyDecodeReachesMemory : Obligations.OnlyDecodeReachesMemory := by
  intro i s m g ws notDecode notRow
  have outside : i ∉ routineRows.map fun row => row.2.2 := by
    intro h
    obtain ⟨row, mem, eq⟩ := List.mem_map.mp h
    exact notRow row mem eq.symm
  exact CompleteAlike.exec notDecode outside

end Sys2Proof.Machine
end

section
/-! Proofs about the command words (spec/30_encoding.md R60-R73): the decoder and the encoder are inverse, and which
words are illegal. -/

namespace Sys2Proof.Machine
open Sys2Proof.Claims

/-! ## A word by its fields -/

/-- A word with RSV = 0, which its OPC and its SEL then determine (R61). -/
abbrev HasFields (w : Word) (opc sel : BitVec 8) : Prop := cmdOpc w = opc ∧ cmdSel w = sel ∧ cmdRsv w = 0#16

theorem HasFields.unique {w w' : Word} {opc sel : BitVec 8} (h : HasFields w opc sel) (h' : HasFields w' opc sel) :
    w = w' := by
  obtain ⟨ho, hs, hr⟩ := h
  obtain ⟨ho', hs', hr'⟩ := h'
  exact cmd_ext (ho.trans ho'.symm) (hs.trans hs'.symm) (hr.trans hr'.symm)

/-- The fields as the numbers that R68 is written in. -/
theorem hasFields_iff {w : Word} {opc sel : BitVec 8} :
    HasFields w opc sel ↔ opcOf w = opc.toNat ∧ selOf w = sel.toNat ∧ rsvOf w = 0 := by
  rw [HasFields, BitVec.toNat_eq, BitVec.toNat_eq, BitVec.toNat_eq, cmdOpc_toNat, cmdSel_toNat, cmdRsv_toNat]
  rfl

theorem rsvOf_eq_zero_iff {w : Word} : rsvOf w = 0 ↔ cmdRsv w = 0#16 := by
  rw [BitVec.toNat_eq, cmdRsv_toNat]
  rfl

/-! ## FMT and REP, and SEL in each form -/

theorem ofCode?_eq_some_iff {c : BitVec 4} {fmt : PixelFormat} : PixelFormat.ofCode? c = some fmt ↔ c = fmt.code := by
  revert c; cases fmt <;> decide

theorem ofCode?_eq_none_iff {c : BitVec 4} : PixelFormat.ofCode? c = none ↔ 9 < c.toNat := by
  revert c; decide

theorem ofCode_eq_iff {c : BitVec 2} {rep : TargetRep} : TargetRep.ofCode c = rep ↔ c = rep.code := by
  revert c; cases rep <;> decide

/-- SEL of form F for a format (R62). -/
def selF (fmt : PixelFormat) : BitVec 8 := fmt.code.zeroExtend 8

/-- SEL of form L for a format and a representation (R62). -/
def selL (fmt : PixelFormat) (rep : TargetRep) : BitVec 8 := (rep.code.zeroExtend 8 <<< 4) ||| fmt.code.zeroExtend 8

/-- A SEL is that of form F for a format exactly when SEL[7:4] = 0 and SEL[3:0] is the code. -/
theorem eq_selF_iff {sel : BitVec 8} {fmt : PixelFormat} :
    sel = selF fmt ↔ sel.extractLsb' 4 4 = 0#4 ∧ sel.extractLsb' 0 4 = fmt.code := by
  have joined (sel : BitVec 8) : sel.extractLsb' 4 4 = 0#4 → sel = (sel.extractLsb' 0 4).zeroExtend 8 := by
    revert sel; decide
  constructor
  · rintro rfl; cases fmt <;> decide
  · rintro ⟨top, low⟩; rw [selF, ← low, ← joined sel top]

/-- A SEL is that of form L exactly when SEL[7:6] = 0 and SEL[5:4] and SEL[3:0] are the codes. -/
theorem eq_selL_iff {sel : BitVec 8} {fmt : PixelFormat} {rep : TargetRep} : sel = selL fmt rep ↔
    sel.extractLsb' 6 2 = 0#2 ∧ sel.extractLsb' 0 4 = fmt.code ∧ sel.extractLsb' 4 2 = rep.code := by
  have joined (sel : BitVec 8) : sel.extractLsb' 6 2 = 0#2 →
      sel = ((sel.extractLsb' 4 2).zeroExtend 8 <<< 4) ||| (sel.extractLsb' 0 4).zeroExtend 8 := by
    revert sel; decide
  constructor
  · rintro rfl; cases fmt <;> cases rep <;> decide
  · rintro ⟨top, low, mid⟩; rw [selL, ← low, ← mid, ← joined sel top]

theorem selFormF_eq_command_iff {sel : BitVec 8} {row : PixelFormat → Instr} {i : Instr} :
    selFormF sel row = .command i ↔ ∃ fmt, sel = selF fmt ∧ row fmt = i := by
  simp only [eq_selF_iff, ← ofCode?_eq_some_iff, selFormF]
  by_cases top : sel.extractLsb' 4 4 = 0#4
  · cases PixelFormat.ofCode? (sel.extractLsb' 0 4) <;> simp [top]
  · simp [top]

theorem selFormL_eq_command_iff {sel : BitVec 8} {row : PixelFormat → TargetRep → Instr} {i : Instr} :
    selFormL sel row = .command i ↔ ∃ fmt rep, sel = selL fmt rep ∧ row fmt rep = i := by
  simp only [eq_selL_iff, ← ofCode?_eq_some_iff, ← ofCode_eq_iff, selFormL]
  by_cases top : sel.extractLsb' 6 2 = 0#2
  · cases PixelFormat.ofCode? (sel.extractLsb' 0 4) with
    | none => simp [top]
    | some fmt =>
      simp only [top, ne_eq, not_true_eq_false, if_false, Decoded.command.injEq, Option.some.injEq, true_and, and_assoc,
        exists_and_left, exists_eq_left']
  · simp [top]

/-- R68 (c). -/
theorem selFormF_illegal_iff {sel : BitVec 8} {row : PixelFormat → Instr} :
    (∃ why, selFormF sel row = .illegal why) ↔ sel.toNat / 16 ≠ 0 ∨ 9 < sel.toNat % 16 := by
  have fields : (sel.extractLsb' 4 4 ≠ 0#4 ∨ PixelFormat.ofCode? (sel.extractLsb' 0 4) = none) ↔
      sel.toNat / 16 ≠ 0 ∨ 9 < sel.toNat % 16 := by revert sel; decide
  rw [← fields, selFormF]
  by_cases top : sel.extractLsb' 4 4 = 0#4
  · cases PixelFormat.ofCode? (sel.extractLsb' 0 4) <;> simp [top]
  · simp [top]

/-- R68 (d). -/
theorem selFormL_illegal_iff {sel : BitVec 8} {row : PixelFormat → TargetRep → Instr} :
    (∃ why, selFormL sel row = .illegal why) ↔ sel.toNat / 64 ≠ 0 ∨ 9 < sel.toNat % 16 := by
  have fields : (sel.extractLsb' 6 2 ≠ 0#2 ∨ PixelFormat.ofCode? (sel.extractLsb' 0 4) = none) ↔
      sel.toNat / 64 ≠ 0 ∨ 9 < sel.toNat % 16 := by revert sel; decide
  rw [← fields, selFormL]
  by_cases top : sel.extractLsb' 6 2 = 0#2
  · cases PixelFormat.ofCode? (sel.extractLsb' 0 4) <;> simp [top]
  · simp [top]

/-- A handle that is not valid is DECODE's; a valid one has a row (log 6). -/
theorem selFormH_eq_command_iff {sel : BitVec 8} {i : Instr} : selFormH sel = .command i ↔
    handleTable.lookup sel = some i ∨ (validHandle sel = false ∧ .decode sel = i) := by
  rw [← handleTable_lookup_isSome, selFormH]
  cases handleTable.lookup sel <;> simp

theorem selFormH_not_illegal {sel : BitVec 8} (why : IllegalWord) : selFormH sel ≠ .illegal why := by
  rw [selFormH]
  cases handleTable.lookup sel <;> nofun

theorem selFormZ_eq_command_iff {sel : BitVec 8} {row i : Instr} :
    selFormZ sel row = .command i ↔ sel = 0x00#8 ∧ row = i := by
  rw [selFormZ]
  by_cases zero : sel = 0x00#8 <;> simp [zero]

/-- R68 (e). -/
theorem selFormZ_illegal_iff {sel : BitVec 8} {row : Instr} :
    (∃ why, selFormZ sel row = .illegal why) ↔ sel.toNat ≠ 0 := by
  have zero_iff : sel = 0x00#8 ↔ sel.toNat = 0 := BitVec.toNat_eq
  rw [ne_eq, ← zero_iff, selFormZ]
  by_cases zero : sel = 0x00#8 <;> simp [zero]

/-! ## The decoder, an equation for each kind of opcode -/

theorem decodeCmd_reservedBits {w : Word} (rsv : cmdRsv w ≠ 0#16) : decodeCmd w = .illegal .reservedBits := if_pos rsv

section
variable {w : Word} {sel : BitVec 8}

theorem decodeCmd_hasAlpha (h : HasFields w 0x01#8 sel) : decodeCmd w = selFormF sel .hasAlpha := by
  obtain ⟨opc, rfl, rsv⟩ := h
  simp [decodeCmd, opc, rsv]

theorem decodeCmd_byteWidth (h : HasFields w 0x02#8 sel) : decodeCmd w = selFormF sel .byteWidth := by
  obtain ⟨opc, rfl, rsv⟩ := h
  simp [decodeCmd, opc, rsv]

theorem decodeCmd_lookup (h : HasFields w 0x03#8 sel) : decodeCmd w = selFormL sel .lookup := by
  obtain ⟨opc, rfl, rsv⟩ := h
  simp [decodeCmd, opc, rsv]

theorem decodeCmd_decode (h : HasFields w 0x04#8 sel) : decodeCmd w = selFormH sel := by
  obtain ⟨opc, rfl, rsv⟩ := h
  simp [decodeCmd, opc, rsv]

theorem opcode_ne {opc : BitVec 8} (h : opc.toNat = 0 ∨ 4 < opc.toNat) :
    opc ≠ 0x01#8 ∧ opc ≠ 0x02#8 ∧ opc ≠ 0x03#8 ∧ opc ≠ 0x04#8 := by
  simp only [ne_eq, BitVec.toNat_eq, BitVec.toNat_ofNat]
  omega

/-- The opcodes of the Z form (R65). -/
theorem zFormTable_opcode {opc : BitVec 8} {row : Instr} (h : zFormTable.lookup opc = some row) :
    0x10 ≤ opc.toNat ∧ ¬ reservedOpc opc.toNat := by
  have reserved := (not_congr (zFormTable_lookup_eq_none opc)).mp (by simp [h])
  unfold reservedOpc
  omega

theorem decodeCmd_zForm {opc : BitVec 8} {row : Instr} (h : HasFields w opc sel)
    (hrow : zFormTable.lookup opc = some row) : decodeCmd w = selFormZ sel row := by
  obtain ⟨high, -⟩ := zFormTable_opcode hrow
  obtain ⟨rfl, rfl, rsv⟩ := h
  simp [decodeCmd, rsv, opcode_ne (opc := cmdOpc w) (by omega), hrow]

theorem decodeCmd_reservedOpcode {opc : BitVec 8} (h : HasFields w opc sel) (reserved : reservedOpc opc.toNat) :
    decodeCmd w = .illegal .reservedOpcode := by
  unfold reservedOpc at reserved
  have noRow : zFormTable.lookup opc = none := (zFormTable_lookup_eq_none opc).mpr (by omega)
  obtain ⟨rfl, rfl, rsv⟩ := h
  simp [decodeCmd, rsv, opcode_ne (opc := cmdOpc w) (by omega), noRow]

end

/-- The kinds of opcode of R65. -/
inductive OpcodeKind : BitVec 8 → Prop
  | hasAlpha : OpcodeKind 0x01#8
  | byteWidth : OpcodeKind 0x02#8
  | lookup : OpcodeKind 0x03#8
  | decode : OpcodeKind 0x04#8
  | zForm {opc : BitVec 8} (row : Instr) (h : zFormTable.lookup opc = some row) : OpcodeKind opc
  | reserved {opc : BitVec 8} (h : reservedOpc opc.toNat) : OpcodeKind opc

theorem opcodeKind (opc : BitVec 8) : OpcodeKind opc := by
  cases hrow : zFormTable.lookup opc with
  | some row => exact .zForm row hrow
  | none =>
    have outside := (zFormTable_lookup_eq_none opc).mp hrow
    by_cases reserved : reservedOpc opc.toNat
    · exact .reserved reserved
    · unfold reservedOpc at reserved
      have : opc = 0x01#8 ∨ opc = 0x02#8 ∨ opc = 0x03#8 ∨ opc = 0x04#8 := by
        simp only [BitVec.toNat_eq, BitVec.toNat_ofNat]
        omega
      obtain rfl | rfl | rfl | rfl := this
      · exact .hasAlpha
      · exact .byteWidth
      · exact .lookup
      · exact .decode

/-! ## The encoder -/

theorem encode_hasAlpha (fmt : PixelFormat) : HasFields (encode (.hasAlpha fmt)) 0x01#8 (selF fmt) := by
  cases fmt <;> decide

theorem encode_byteWidth (fmt : PixelFormat) : HasFields (encode (.byteWidth fmt)) 0x02#8 (selF fmt) := by
  cases fmt <;> decide

theorem encode_lookup (fmt : PixelFormat) (rep : TargetRep) :
    HasFields (encode (.lookup fmt rep)) 0x03#8 (selL fmt rep) := by
  cases fmt <;> cases rep <;> decide

theorem encode_decode (handle : BitVec 8) : HasFields (encode (.decode handle)) 0x04#8 handle := by
  revert handle; decide

/-- The rows of the two tables are well-formed: none is DECODE. -/
theorem tables_wellFormed : ∀ p ∈ handleTable ++ zFormTable, p.2.wellFormed = true := by decide

theorem lookup_wellFormed {table : List (BitVec 8 × Instr)} (sub : table ⊆ handleTable ++ zFormTable) {k : BitVec 8}
    {i : Instr} (h : table.lookup k = some i) : i.wellFormed = true := by
  obtain ⟨before, after, split, -⟩ := List.lookup_eq_some_iff.mp h
  exact tables_wellFormed (k, i) (sub (by simp [split]))

/-- Settles O1: the decoder's equation for the opcode of the encoding, whose SEL is the one its form admits for the
instruction's FMT, REP or handle. The encodings of the other rows hold no operand. -/
theorem decodeOfEncodeIsTheInstruction : Obligations.DecodeOfEncodeIsTheInstruction := by
  intro i wf
  cases i with
  | hasAlpha fmt => rw [decodeCmd_hasAlpha (encode_hasAlpha fmt)]; exact selFormF_eq_command_iff.mpr ⟨fmt, rfl, rfl⟩
  | byteWidth fmt => rw [decodeCmd_byteWidth (encode_byteWidth fmt)]; exact selFormF_eq_command_iff.mpr ⟨fmt, rfl, rfl⟩
  | lookup fmt rep =>
    rw [decodeCmd_lookup (encode_lookup fmt rep)]
    exact selFormL_eq_command_iff.mpr ⟨fmt, rep, rfl, rfl⟩
  | decode handle =>
    have invalid : validHandle handle = false := by simpa [Instr.wellFormed] using wf
    rw [decodeCmd_decode (encode_decode handle)]
    exact selFormH_eq_command_iff.mpr (.inr ⟨invalid, rfl⟩)
  | _ => rfl

/-- Settles O2: by the kind of the word's opcode, the instruction read and its encoding have the word's three fields. -/
theorem commandWordIsItsEncoding : Obligations.CommandWordIsItsEncoding := by
  intro w i h
  by_cases rsv : cmdRsv w = 0#16
  · have fields : HasFields w (cmdOpc w) (cmdSel w) := ⟨rfl, rfl, rsv⟩
    generalize cmdOpc w = opc, cmdSel w = sel at fields
    cases opcodeKind opc with
    | hasAlpha =>
      rw [decodeCmd_hasAlpha fields] at h
      obtain ⟨fmt, rfl, rfl⟩ := selFormF_eq_command_iff.mp h
      exact ⟨(encode_hasAlpha fmt).unique fields, rfl⟩
    | byteWidth =>
      rw [decodeCmd_byteWidth fields] at h
      obtain ⟨fmt, rfl, rfl⟩ := selFormF_eq_command_iff.mp h
      exact ⟨(encode_byteWidth fmt).unique fields, rfl⟩
    | lookup =>
      rw [decodeCmd_lookup fields] at h
      obtain ⟨fmt, rep, rfl, rfl⟩ := selFormL_eq_command_iff.mp h
      exact ⟨(encode_lookup fmt rep).unique fields, rfl⟩
    | decode =>
      rw [decodeCmd_decode fields] at h
      rcases selFormH_eq_command_iff.mp h with hrow | ⟨invalid, rfl⟩
      · exact ⟨HasFields.unique (encode_of_handleTable sel i hrow) fields,
        lookup_wellFormed (List.subset_append_left ..) hrow⟩
      · exact ⟨(encode_decode sel).unique fields, by simp [Instr.wellFormed, invalid]⟩
    | zForm row hrow =>
      rw [decodeCmd_zForm fields hrow] at h
      obtain ⟨rfl, rfl⟩ := selFormZ_eq_command_iff.mp h
      exact ⟨HasFields.unique (encode_of_zFormTable opc row hrow) fields,
        lookup_wellFormed (List.subset_append_right ..) hrow⟩
    | reserved reserved => rw [decodeCmd_reservedOpcode fields reserved] at h; cases h
  · rw [decodeCmd_reservedBits rsv] at h; cases h

/-! ## The illegal words -/

/-- The illegal words are those of R68: by the kind of the opcode, the clause of R68 that names it. -/
theorem decodeCmd_illegal_iff (w : Word) : (∃ why, decodeCmd w = .illegal why) ↔ illegalWord w := by
  by_cases rsv : cmdRsv w = 0#16
  · have fields : HasFields w (cmdOpc w) (cmdSel w) := ⟨rfl, rfl, rsv⟩
    generalize cmdOpc w = opc, cmdSel w = sel at fields
    obtain ⟨opcNum, selNum, rsvNum⟩ := hasFields_iff.mp fields
    rw [illegalWord, opcNum, selNum, rsvNum]
    cases opcodeKind opc with
    | hasAlpha => rw [decodeCmd_hasAlpha fields, selFormF_illegal_iff]; simp [reservedOpc]
    | byteWidth => rw [decodeCmd_byteWidth fields, selFormF_illegal_iff]; simp [reservedOpc]
    | lookup => rw [decodeCmd_lookup fields, selFormL_illegal_iff]; simp [reservedOpc]
    | decode => rw [decodeCmd_decode fields]; simp [reservedOpc, selFormH_not_illegal]
    | zForm row hrow =>
      obtain ⟨high, notReserved⟩ := zFormTable_opcode hrow
      rw [decodeCmd_zForm fields hrow, selFormZ_illegal_iff]
      simp only [notReserved, false_or]
      omega
    | reserved reserved => simp [decodeCmd_reservedOpcode fields reserved, reserved]
  · have rsvNum : rsvOf w ≠ 0 := (not_congr rsvOf_eq_zero_iff).mpr rsv
    simp [decodeCmd_reservedBits rsv, illegalWord, rsvNum]

/-- Fault entry as the statements write it (R226). -/
theorem raiseFault_entersFault (c : Cause) (s : State) : EntersFault (raiseFault c s) s (faultStatus c) :=
  congrArg Host.Outcome.next (s.enterFault_eq c)

theorem answer_illegalWord {s : State} (ready : s.Ready) (h : illegalWord s.req.cmd) :
    EntersFault (answer s) s 0x03#8 := by
  obtain ⟨why, illegal⟩ := (decodeCmd_illegal_iff s.req.cmd).mpr h
  rw [answer_illegal illegal, illegalCommand, transact_ready ready]
  exact raiseFault_entersFault .illegalCommand s

theorem exec_decode_invalid {s : State} {handle : BitVec 8} (ready : s.Ready) (invalid : validHandle handle = false) :
    EntersFault (exec (.decode handle) s) s 0x05#8 := by
  have null : exec (.decode handle) s = nullDecoder s :=
    execDecode_invalid (by simpa [validHandle] using invalid) s
  rw [null, nullDecoder, transact_ready ready]
  exact raiseFault_entersFault .nullDecoder s

/-- A DECODE of a handle that is not valid is read as such. -/
theorem decodeCmd_invalidHandle {w : Word} (rsv : rsvOf w = 0) (opc : opcOf w = 0x04)
    (invalid : ¬ validHandleNumber (selOf w)) :
    ∃ handle, decodeCmd w = .command (.decode handle) ∧ validHandle handle = false := by
  have fields : HasFields w 0x04#8 (cmdSel w) := hasFields_iff.mpr ⟨opc, (cmdSel_toNat w).symm, rsv⟩
  have invalid' : validHandle (cmdSel w) = false := by
    rw [(hasFields_iff.mp fields).2.1, ← validHandle_iff] at invalid
    simpa using invalid
  exact ⟨cmdSel w, (decodeCmd_decode fields).trans (selFormH_eq_command_iff.mpr (.inr ⟨invalid', rfl⟩)), invalid'⟩

/-- Settles O3: `decodeCmd_illegal_iff` says which words are illegal, `answer_illegalWord` and `exec_decode_invalid`
what PFC answers. -/
theorem illegalWordsRaiseIllegalCommand : Obligations.IllegalWordsRaiseIllegalCommand := by
  intro w
  refine ⟨decodeCmd_illegal_iff w, fun s ready cmd => ?_⟩
  subst cmd
  refine ⟨answer_illegalWord ready, fun rsv opc invalid => ?_⟩
  obtain ⟨handle, command, invalid⟩ := decodeCmd_invalidHandle rsv opc invalid
  constructor
  · rw [← decodeCmd_illegal_iff, command]
    nofun
  · rw [answer_command command]
    exact exec_decode_invalid ready invalid

/-- Settles O4: by O1, each of the words that are legal being the encoding of its command. -/
theorem sampleCommandWordsDecode : Obligations.SampleCommandWordsDecode := by
  have legal := decodeOfEncodeIsTheInstruction
  exact ⟨legal (.hasAlpha .argb4444) rfl, legal (.lookup .rgb565 .toArgb) rfl, legal .decodeArgbRgb565 rfl,
    legal .blend565 rfl, legal .decode565A5Rgb565 rfl, legal (.byteWidth .argb6666) rfl, legal .cvt565To888 rfl,
    legal .blendargb rfl, legal (.decode 0x40#8) rfl, rfl, rfl, rfl⟩

/-- Settles O6: PFC's step is its answer, ILLEGAL_COMMAND, and the step after it the host's receipt of that. -/
theorem stepOnIllegalWordEntersTheFault : Obligations.StepOnIllegalWordEntersTheFault := by
  intro s p ready illegal
  have entered : answer s = _ := answer_illegalWord ready illegal
  have perform : step s = _ := (step_requested p).trans (congrArg performed entered)
  exact ⟨perform, fun calm => ⟨_, perform, _, step_receive rfl calm, rfl⟩⟩

end Sys2Proof.Machine
end

section
/-! Proofs about the registry and the dispatch (spec/40_registry_dispatch.md R80-R86): what a decode routine's response
is a function of, and the answers and the words of HASALPHA, BYTEWIDTH and LOOKUP. -/

namespace Sys2Proof.Machine
open Sys2Proof.Claims

/-! ## The response of a decode routine is a function of ADEF, BITIX and the value read -/

/-- Where BITIX is legal for the format, a PFC that is not halted reads a pixel and, if it is not stuck, takes no draw
and responds with a function of ADEF, BITIX and the value read. -/
def DrivenByPixel (fmt : PixelFormat) (run : State → Result) : Prop :=
  ∃ drive : Byte → Byte → Word → Response, ∀ s : State, s.Ready → (fmt = .mono → s.req.bitix.toNat ≤ 7) →
    run s = withPixel fmt s fun v => .next (s.respond (drive s.req.adef s.req.bitix v))

/-- A response written over the state is such a function when it is the same in all states with one ADEF. -/
theorem DrivenByPixel.decodeRoutine (fmt : PixelFormat) (k : State → Word → Response)
    (named : ∀ s t : State, s.req.adef = t.req.adef → k s = k t) :
    DrivenByPixel fmt fun s => decodeRoutine fmt s (k s) := by
  refine ⟨fun adef _ => k { State.reset with req := { adef := adef } }, fun s ready _ => ?_⟩
  simp only [Sys2Proof.Machine.decodeRoutine, transact_ready ready,
    named s { State.reset with req := { adef := s.req.adef } } rfl]

theorem DrivenByPixel.decodeMonoRoutine (n : Nat) (drawn : State → Response) (lit : State → Bool → Response)
    (named : ∀ s t : State, s.req.adef = t.req.adef → lit s = lit t) :
    DrivenByPixel .mono fun s => decodeMonoRoutine s n (drawn s) (lit s) := by
  refine ⟨fun adef bitix v => lit { State.reset with req := { adef := adef } } (monoBit (laneB v) bitix),
    fun s ready bitix => ?_⟩
  have ok : decide (s.req.bitix ≤ 7#8) = true := decide_eq_true (bitix rfl)
  simp only [Sys2Proof.Machine.decodeMonoRoutine, transact_ready ready, ok, checked_true,
    named s { State.reset with req := { adef := s.req.adef } } rfl]

/-- Of the request, the 32 routines name ADEF alone beside the address, and those of Mono BITIX (R86, R110-R141). -/
theorem runRoutine_drivenByPixel (rep : TargetRep) {fmt : PixelFormat} (decodable : fmt.decodable = true) :
    DrivenByPixel fmt (runRoutine rep fmt) := by
  cases fmt with
  | unknown | indexed => cases decodable
  | rgb565 | rgb888 | grayscale =>
    cases rep <;> exact .decodeRoutine _ _ fun s t adef => by simp only [adef]
  | argb4444 | argb6666 | argb8565 | argb8888 => cases rep <;> exact .decodeRoutine _ _ fun _ _ _ => rfl
  | mono =>
    change DrivenByPixel .mono fun s => runRoutine rep .mono s
    cases rep with
    | to565A5 | to565A8 | toArgb | toPacked32 =>
      dsimp only [runRoutine, runTo565A5, runTo565A8, runToArgb, runToPacked32, execDecode565A5Mono,
        execDecode565A8Mono, execDecodeArgbMono, execDecodePacked32Mono]
      exact .decodeMonoRoutine _ _ _ fun s t adef => by simp only [adef]

section
variable {s t : State}

/-- Where every byte is admitted, a pixel has a value. -/
theorem memRead_of_bytesAdmitted {n : Nat} (admitted : bytesAdmitted s n) : ∃ v, s.memRead s.req.addr n = some v :=
  Option.isSome_iff_exists.mp ((s.memRead_isSome_iff s.req.addr n).mpr admitted)

theorem State.readBytes_congr {a b n : Nat}
    (same : ∀ i < n, s.readByte (s.byteAddr (a + i)) = t.readByte (t.byteAddr (b + i))) :
    s.readBytes a n = t.readBytes b n := by
  induction n with
  | zero => rfl
  | succ n ih =>
    rw [State.readBytes, State.readBytes, ih fun i hi => same i (Nat.lt_succ_of_lt hi), same n (Nat.lt_succ_self n)]

/-- The bytes of a pixel and the byte order give its value, at whatever addresses they stand (R42, R43). -/
theorem State.memRead_congr_bytes {a b n : Nat} (params : s.params = t.params)
    (same : ∀ i < n, s.readByte (s.byteAddr (a + i)) = t.readByte (t.byteAddr (b + i))) :
    s.memRead a n = t.memRead b n := by
  rw [State.memRead, State.memRead, State.readBytes_congr same, params]

end

/-- Settles O28: a routine and DECODE of its handle are one, which responds with what its pixel drives. -/
theorem decodeRunsTheRoutineOfItsHandle : Obligations.DecodeRunsTheRoutineOfItsHandle := by
  intro s rep fmt row h
  obtain ⟨target, format, decodable, rfl, run⟩ := routineRows_run h
  obtain ⟨row_eq, decode_eq⟩ := run s
  refine ⟨decode_eq.trans row_eq.symm, fun ready admitted bitix => ?_⟩
  obtain ⟨drive, driven⟩ := runRoutine_drivenByPixel target decodable
  rw [widthOf_code decodable] at admitted
  obtain ⟨v, read⟩ := memRead_of_bytesAdmitted admitted
  have answered := driven s ready fun mono => bitix (by rw [mono]; rfl)
  rw [withPixel_read read] at answered
  exact ⟨drive s.req.adef s.req.bitix v, decode_eq.trans answered, row_eq.trans answered⟩

/-- Settles O29: the two pixels have one value, and the routine drives one function of it, ADEF and BITIX. -/
theorem decodeIsAFunctionOfItsBytes : Obligations.DecodeIsAFunctionOfItsBytes := by
  intro s t rep fmt row h readyS readyT params status adef bitix legal bytes s' answer
  obtain ⟨target, format, decodable, rfl, run⟩ := routineRows_run h
  obtain ⟨drive, driven⟩ := runRoutine_drivenByPixel target decodable
  have legalS (mono : format = .mono) : s.req.bitix.toNat ≤ 7 := legal (by rw [mono]; rfl)
  rw [widthOf_code decodable] at bytes
  have value : s.memRead s.req.addr format.readWidth = t.memRead t.req.addr format.readWidth :=
    State.memRead_congr_bytes params bytes
  rw [(run s).1, driven s readyS legalS] at answer
  rw [(run t).1, driven t readyT fun mono => bitix ▸ legalS mono]
  cases read : s.memRead s.req.addr format.readWidth with
  | none => rw [withPixel_stuck read] at answer; cases answer
  | some v =>
    rw [withPixel_read read] at answer
    cases answer
    refine ⟨_, withPixel_read (value ▸ read) _, ?_⟩
    simp only [State.respond_rsp, State.statusRead, status, adef, bitix]

/-! ## The words of the registry -/

theorem exists_command_of_legal {w : Word} (legal : ¬ illegalWord w) : ∃ i, decodeCmd w = .command i := by
  cases dec : decodeCmd w with
  | command i => exact ⟨i, rfl⟩
  | illegal why => exact absurd ((decodeCmd_illegal_iff w).mp ⟨why, dec⟩) legal

/-- The words of an opcode whose illegal words are those with a bit set from `top` up or FMT above 9, when each of its
commands is read as `reading` says. -/
theorem registryWord_of {opc : BitVec 8} {top : Nat} {reading : Word → Prop}
    (illegal : ∀ w, opcOf w = opc.toNat → (illegalWord w ↔ w.toNat / 2 ^ top ≠ 0 ∨ 9 < w.toNat / 2 ^ 8 % 16))
    (legal : ∀ w i, HasFields w opc (cmdSel w) → decodeCmd w = .command i → reading w) :
    registryWord opc.toNat top reading := by
  intro s ready opcode
  have illegal_iff := illegal s.req.cmd opcode
  refine ⟨fun h => answer_illegalWord ready (illegal_iff.mpr h), fun high low => ?_⟩
  have wordLegal : ¬ illegalWord s.req.cmd := by
    rw [illegal_iff]
    omega
  have rsv : rsvOf s.req.cmd = 0 := Decidable.byContradiction fun rsv => wordLegal (.inl rsv)
  obtain ⟨i, command⟩ := exists_command_of_legal wordLegal
  exact legal _ i (hasFields_iff.mpr ⟨opcode, (cmdSel_toNat _).symm, rsv⟩) command

theorem selF_toNat (fmt : PixelFormat) : (selF fmt).toNat = fmt.code.toNat := by
  cases fmt <;> rfl

theorem selL_toNat (fmt : PixelFormat) (rep : TargetRep) :
    (selL fmt rep).toNat = 16 * rep.code.toNat + fmt.code.toNat := by
  cases fmt <;> cases rep <;> rfl

theorem fmtCode_le (fmt : PixelFormat) : fmt.code.toNat ≤ 9 := by
  cases fmt <;> decide

/-- The words of a form F opcode: FMT is CMD[11:8] (R62). -/
theorem registryWord_formF {opc : BitVec 8} {row : PixelFormat → Instr} (formF : opc.toNat = 0x01 ∨ opc.toNat = 0x02)
    (decodes : ∀ {w sel}, HasFields w opc sel → decodeCmd w = selFormF sel row) :
    registryWord opc.toNat 12 fun w =>
      ∃ fmt : PixelFormat, decodeCmd w = .command (row fmt) ∧ fmt.code.toNat = w.toNat / 2 ^ 8 % 16 := by
  refine registryWord_of (fun w opcode => ?_) fun w i fields command => ?_
  · simp only [illegalWord, reservedOpc, opcode, rsvOf, selOf]
    omega
  · obtain ⟨fmt, sel, rfl⟩ := selFormF_eq_command_iff.mp ((decodes fields).symm.trans command)
    refine ⟨fmt, command, ?_⟩
    have selNum := congrArg BitVec.toNat sel
    rw [cmdSel_toNat, selF_toNat] at selNum
    have := fmtCode_le fmt
    omega

/-- The words of LOOKUP: FMT is CMD[11:8] and REP is CMD[13:12] (R62). -/
theorem registryWord_lookup : registryWord 0x03 14 fun w => ∃ (fmt : PixelFormat) (rep : TargetRep),
    decodeCmd w = .command (.lookup fmt rep) ∧ fmt.code.toNat = w.toNat / 2 ^ 8 % 16 ∧
      rep.code.toNat = w.toNat / 2 ^ 12 % 4 := by
  refine registryWord_of (opc := 0x03#8) (fun w (opcode : opcOf w = 0x03) => ?_) fun w i fields command => ?_
  · simp only [illegalWord, reservedOpc, opcode, rsvOf, selOf, true_and]
    omega
  · obtain ⟨fmt, rep, sel, rfl⟩ := selFormL_eq_command_iff.mp ((decodeCmd_lookup fields).symm.trans command)
    refine ⟨fmt, rep, command, ?_⟩
    have selNum := congrArg BitVec.toNat sel
    rw [cmdSel_toNat, selL_toNat] at selNum
    have := fmtCode_le fmt
    omega

/-! ## The answers of the registry -/

/-- A command that checks for the halted state and responds completes where PFC is not halted. -/
theorem answers_of_respond {i : Instr} {s : State} {r : Response} (ready : s.Ready)
    (meaning : exec i s = transact s (.next (s.respond r))) : Answers i s r := by
  rw [Answers, meaning, transact_ready ready]
  rfl

theorem hasAlpha_answers {s : State} (ready : s.Ready) (fmt : PixelFormat) :
    Answers (.hasAlpha fmt) s (inY0 (BitVec.ofBool fmt.hasAlpha)) :=
  answers_of_respond ready rfl

theorem byteWidth_answers {s : State} (ready : s.Ready) (fmt : PixelFormat) :
    Answers (.byteWidth fmt) s (inY0 (BitVec.ofNat 3 fmt.byteWidth)) :=
  answers_of_respond ready rfl

theorem lookup_answers {s : State} (ready : s.Ready) (fmt : PixelFormat) (rep : TargetRep) :
    Answers (.lookup fmt rep) s (inY0 (dispatch rep fmt)) :=
  answers_of_respond ready rfl

/-- Settles O24: the HASALPHA ROM is 1 for the four formats with alpha. -/
theorem hasAlphaOfEachFormat : Obligations.HasAlphaOfEachFormat := by
  refine ⟨fun fmt s ready => ?_, fun fmt => ⟨?_, fmtCode_le fmt⟩,
    registryWord_formF (opc := 0x01#8) (.inl rfl) decodeCmd_hasAlpha⟩
  · have answers := hasAlpha_answers ready fmt
    cases fmt <;> exact answers
  · cases fmt <;> rfl

/-- Settles O25: the BYTEWIDTH ROM format by format. -/
theorem byteWidthOfEachFormat : Obligations.ByteWidthOfEachFormat := by
  refine ⟨fun s ready => ?_, fun fmt => ?_, rfl,
    registryWord_formF (opc := 0x02#8) (.inr rfl) decodeCmd_byteWidth⟩
  · have answers := byteWidth_answers ready
    exact ⟨answers .unknown, answers .rgb565, answers .argb4444, answers .argb6666, answers .argb8565, answers .rgb888,
      answers .argb8888, answers .indexed, answers .mono, answers .grayscale⟩
  · cases fmt <;> rfl

/-! ## LOOKUP and the DECODE word formed from its answer -/

/-- The DISPATCH entry in Y0: the handle of a decodable format, NULL for the two others (R82). -/
theorem dispatch_up (rep : TargetRep) (fmt : PixelFormat) : up (dispatch rep fmt) =
    if fmt = .unknown ∨ fmt = .indexed then 0#32
      else BitVec.ofNat 32 (0x40 + 16 * rep.code.toNat + fmt.code.toNat) := by
  cases fmt <;> cases rep <;> rfl

/-- Every target and decodable format has its row (R83). -/
theorem routineRows_complete (rep : TargetRep) {fmt : PixelFormat} (decodable : fmt.decodable = true) :
    ∃ row, (rep.code.toNat, fmt.code.toNat, row) ∈ routineRows := by
  have listed : (rep.code.toNat, fmt.code.toNat) ∈ routineRows.map fun p => (p.1, p.2.1) := by
    revert decodable; cases fmt <;> cases rep <;> decide
  obtain ⟨⟨r, f, row⟩, mem, codes⟩ := List.mem_map.mp listed
  cases codes
  exact ⟨row, mem⟩

theorem decodable_of_not_null {fmt : PixelFormat} (h : ¬ (fmt = .unknown ∨ fmt = .indexed)) : fmt.decodable = true := by
  revert h; cases fmt <;> decide

/-- The word formed from a handle is DECODE's (R84). -/
theorem decodeWord_fields {n : Nat} (fits : n < 2 ^ 8) :
    HasFields (0x04#32 ||| (BitVec.ofNat 32 n <<< 8)) 0x04#8 (BitVec.ofNat 8 n) := by
  have widened : (BitVec.ofNat 8 n).zeroExtend 32 = BitVec.ofNat 32 n := by
    rw [BitVec.toNat_eq, BitVec.zeroExtend_eq_setWidth, BitVec.toNat_setWidth, BitVec.toNat_ofNat, BitVec.toNat_ofNat]
    omega
  have fields := encode_decode (BitVec.ofNat 8 n)
  rwa [encode, widened] at fields

/-- The word formed from the handle of a row is read as the row. -/
theorem decodeCmd_routineRow {rep fmt : Nat} {row : Instr} (h : (rep, fmt, row) ∈ routineRows)
    (fits : 0x40 + 16 * rep + fmt < 2 ^ 8) :
    decodeCmd (0x04#32 ||| (BitVec.ofNat 32 (0x40 + 16 * rep + fmt) <<< 8)) = .command row :=
  (decodeCmd_decode (decodeWord_fields fits)).trans (selFormH_eq_command_iff.mpr (.inl (routineRows_lookup _ h)))

/-- Settles O26: `dispatch_up` gives the answer, `decodeCmd_routineRow` the DECODE word formed from it. -/
theorem lookupGivesTheHandleOrNull : Obligations.LookupGivesTheHandleOrNull := by
  refine ⟨fun fmt rep s ready => ?_, fun fmt rep => ⟨?_, fun notNull => ?_⟩, registryWord_lookup⟩
  · rw [← dispatch_up]
    exact lookup_answers ready fmt rep
  · cases fmt <;> cases rep <;> rfl
  · obtain ⟨row, mem⟩ := routineRows_complete rep (decodable_of_not_null notNull)
    have := fmtCode_le fmt
    have := rep.code.isLt
    exact ⟨row, mem, decodeCmd_routineRow mem (by omega)⟩

end Sys2Proof.Machine
end

section
/-! Proofs about the decode routines (spec/41_decode.md R100-R141): the fields each drives from its pixel, from ADEF
and, for Mono, from BITIX. -/

namespace Sys2Proof.Machine
open Sys2Proof.Claims

/-! ## What a routine answers -/

section
variable {i : Instr} {s : State} {v : Word}

/-- A routine that reads its pixel completes with what it drives from the value: `meaning` names the routine, `drives`
the fields of the value. -/
theorem answers_of_decodeRoutine (fmt : PixelFormat) {k : Word → Response} {r : Response} (ready : s.Ready)
    (read : s.memRead s.req.addr fmt.readWidth = some v) (meaning : exec i s = decodeRoutine fmt s k)
    (drives : k v = r) : Answers i s r := by
  rw [Answers, meaning, decodeRoutine, transact_ready ready, withPixel_read read, drives]
  rfl

variable {n : Nat} {drawn : Response} {lit : Bool → Response}

/-- Bit index 0 is the most significant bit of the byte (R102). -/
theorem monoBit_laneB (v : Word) (bitix : Byte) : monoBit (laneB v) bitix = v.getLsbD (7 - bitix.toNat) := by
  have inByte : 7 - bitix.toNat < 8 := by omega
  simp [monoBit, laneB, inByte]

/-- A Mono routine with BITIX at most 7 completes with the color of the selected bit. -/
theorem answers_of_monoLit {r : Response} (ready : s.Ready) (read : s.memRead s.req.addr 1 = some v)
    (legal : s.req.bitix.toNat ≤ 7) (meaning : exec i s = decodeMonoRoutine s n drawn lit)
    (drives : lit (v.getLsbD (7 - s.req.bitix.toNat)) = r) : Answers i s r := by
  have ok : decide (s.req.bitix ≤ 7#8) = true := decide_eq_true legal
  rw [Answers, meaning, decodeMonoRoutine, transact_ready ready, ok, checked_true, withPixel_read (fmt := .mono) read,
    monoBit_laneB, drives]
  rfl

theorem bitix_illegal (above : 7 < s.req.bitix.toNat) : decide (s.req.bitix ≤ 7#8) = false :=
  decide_eq_false (Nat.not_le.mpr above)

/-- With BITIX above 7 it completes with its draws (R225). -/
theorem answers_of_monoDrawn {r : Response} (ready : s.Ready) (read : s.memRead s.req.addr 1 = some v)
    (above : 7 < s.req.bitix.toNat) (release : s.params.debugAssert = false)
    (meaning : exec i s = decodeMonoRoutine s n drawn lit) (drives : drawn = r) : Answers i s r n := by
  rw [Answers, meaning, decodeMonoRoutine, transact_ready ready, bitix_illegal above, checked_release release,
    withPixel_read (fmt := .mono) read, drives]
  rfl

/-- With BITIX above 7 in debug mode it enters PRECONDITION (R224). -/
theorem entersFault_of_monoDebug (ready : s.Ready) (above : 7 < s.req.bitix.toNat)
    (debug : s.params.debugAssert = true) (meaning : exec i s = decodeMonoRoutine s n drawn lit) :
    EntersFault (exec i s) s 0x07#8 := by
  rw [meaning, decodeMonoRoutine, transact_ready ready, bitix_illegal above, checked_debug debug]
  exact raiseFault_entersFault .precondition s

end

/-! ## What the response shapes drive -/

/-- An 8-bit alpha is driven as it is. -/
theorem color565_byte (c : BitVec 16) (alpha : Byte) : color565 c alpha = { y0 := some (up c), ya := some alpha } := by
  have whole : alpha.zeroExtend 8 = alpha := BitVec.setWidth_eq alpha
  rw [color565, whole]
  rfl

theorem color565_ya (c : BitVec 16) (alpha : Byte) : (color565 c alpha).ya = some alpha :=
  congrArg Response.ya (color565_byte c alpha)

/-- White or black in the 565 representations (R116, R124). -/
theorem color565_mono565 (m : Bool) (alpha : Byte) : color565 (mono565 m) alpha =
    { y0 := some (if m then 0x0000FFFF#32 else 0#32), ya := some alpha } := by
  rw [color565_byte]
  cases m <;> rfl

/-- White or black under ADEF (R140). -/
theorem packedColor_mono24 (m : Bool) (alpha : Byte) : packedColor alpha (mono24 m) =
    { y0 := some ((up alpha <<< 24) ||| (if m then 0x00FFFFFF#32 else 0#32)) } := by
  cases m <;> rfl

/-- The channels of an RGB565 pixel are fields of the value read (R104). -/
theorem widen565_low16 (alpha : Byte) (v : Word) : widen565 alpha (low16 v) =
    { a := alpha, r := x5to8 (v.extractLsb 15 11), g := x6to8 (v.extractLsb 10 5), b := x5to8 (v.extractLsb 4 0) } := by
  rw [widen565, r5_low16, g6_low16, b5_low16]
  rfl

theorem channels_widen565 (alpha : Byte) (v : Word) : channels (widen565 alpha (low16 v)) =
    { ya := some alpha, yr := some (x5to8 (v.extractLsb 15 11)), yg := some (x6to8 (v.extractLsb 10 5))
      yb := some (x5to8 (v.extractLsb 4 0)) } := by
  rw [widen565_low16, channels]

theorem packed32_widen565 (alpha : Byte) (v : Word) : packed32 (widen565 alpha (low16 v)) =
    { y0 := some (pack8888 alpha (x5to8 (v.extractLsb 15 11)) (x6to8 (v.extractLsb 10 5))
        (x5to8 (v.extractLsb 4 0))) } := by
  rw [widen565_low16, packed32]

/-- Packing the byte lanes under full alpha leaves the low 24 bits as they were read (R138). -/
theorem packed32_fullAlpha (v : Word) :
    packed32 (lanesArgb 0xFF#8 v) = { y0 := some (0xFF000000#32 ||| up (v.extractLsb 23 0)) } := by
  simp only [packed32, lanesArgb, pack8888, pack888_lanes]
  rfl

/-- A 32-bit value is driven as it is. -/
theorem inY0_word (v : Word) : inY0 v = { y0 := some v } := by
  rw [inY0, BitVec.zeroExtend_eq_setWidth, BitVec.setWidth_eq]

/-! ## The routines of the formats other than Mono -/

/-- Settles O30: each routine reads its pixel and drives fields of it, a 5-bit alpha zero-extended and ADEF as it
is. A field driven as it is read holds by `rfl`; `color565_byte` is for the alphas that have 8 bits. -/
theorem decode565A5Results : Obligations.Decode565A5Results :=
  ⟨fun _ _ ready =>
    ⟨fun read => ⟨answers_of_decodeRoutine .rgb565 ready read rfl (color565_byte ..),
        answers_of_decodeRoutine .argb4444 ready read rfl rfl⟩,
      fun read => ⟨answers_of_decodeRoutine .argb6666 ready read rfl rfl,
        answers_of_decodeRoutine .argb8565 ready read rfl rfl,
        answers_of_decodeRoutine .rgb888 ready read rfl (color565_byte ..)⟩,
      fun read => answers_of_decodeRoutine .argb8888 ready read rfl rfl,
      fun read => answers_of_decodeRoutine .grayscale ready read rfl (color565_byte ..)⟩, rfl⟩

/-- Settles O31: as O30, the alpha of the pixel brought to 8 bits. -/
theorem decode565A8Results : Obligations.Decode565A8Results :=
  ⟨fun _ _ ready =>
    ⟨fun read => ⟨answers_of_decodeRoutine .rgb565 ready read rfl (color565_byte ..),
        answers_of_decodeRoutine .argb4444 ready read rfl (color565_byte ..)⟩,
      fun read => ⟨answers_of_decodeRoutine .argb6666 ready read rfl (color565_byte ..),
        answers_of_decodeRoutine .argb8565 ready read rfl (color565_byte ..),
        answers_of_decodeRoutine .rgb888 ready read rfl (color565_byte ..)⟩,
      fun read => answers_of_decodeRoutine .argb8888 ready read rfl (color565_byte ..),
      fun read => answers_of_decodeRoutine .grayscale ready read rfl (color565_byte ..)⟩, rfl⟩

/-- Settles O32: each channel is a field of the pixel brought to 8 bits, or ADEF; those of RGB565 by
`channels_widen565`. -/
theorem decodeArgbResults : Obligations.DecodeArgbResults :=
  ⟨fun _ _ ready =>
    ⟨fun read => ⟨answers_of_decodeRoutine .rgb565 ready read rfl (channels_widen565 ..),
        answers_of_decodeRoutine .argb4444 ready read rfl rfl⟩,
      fun read => ⟨answers_of_decodeRoutine .argb6666 ready read rfl rfl,
        answers_of_decodeRoutine .argb8565 ready read rfl (channels_widen565 ..),
        answers_of_decodeRoutine .rgb888 ready read rfl rfl⟩,
      fun read => answers_of_decodeRoutine .argb8888 ready read rfl rfl,
      fun read => answers_of_decodeRoutine .grayscale ready read rfl rfl⟩, rfl⟩

/-- Settles O33: the channels of O32 packed, RGB888 under full alpha by `packed32_fullAlpha`. -/
theorem decodePacked32Results : Obligations.DecodePacked32Results :=
  ⟨fun _ _ ready =>
    ⟨fun read => ⟨answers_of_decodeRoutine .rgb565 ready read rfl (packed32_widen565 ..),
        answers_of_decodeRoutine .argb4444 ready read rfl rfl⟩,
      fun read => ⟨answers_of_decodeRoutine .argb6666 ready read rfl rfl,
        answers_of_decodeRoutine .argb8565 ready read rfl (packed32_widen565 ..),
        answers_of_decodeRoutine .rgb888 ready read rfl (packed32_fullAlpha _)⟩,
      fun read => answers_of_decodeRoutine .argb8888 ready read rfl (inY0_word _),
      fun read => answers_of_decodeRoutine .grayscale ready read rfl rfl⟩, rfl⟩

/-! ## The Mono routines -/

section
variable (s : State)

theorem exec_decode565A5Mono : exec .decode565A5Mono s =
    decodeMonoRoutine s 1 (color565 (Config.anyValue 16 s.draws) s.req.adef)
      fun m => color565 (mono565 m) s.req.adef := rfl

theorem exec_decode565A8Mono : exec .decode565A8Mono s =
    decodeMonoRoutine s 1 (color565 (Config.anyValue 16 s.draws) s.req.adef)
      fun m => color565 (mono565 m) s.req.adef := rfl

theorem exec_decodeArgbMono : exec .decodeArgbMono s =
    decodeMonoRoutine s 3
      (channels
        { a := s.req.adef, r := Config.anyValue 8 s.draws, g := Config.anyValue 8 (s.draws + 1)
          b := Config.anyValue 8 (s.draws + 2) })
      fun m => channels (grayArgb s.req.adef (mono8 m)) := rfl

theorem exec_decodePacked32Mono : exec .decodePacked32Mono s =
    decodeMonoRoutine s 1 (packedColor s.req.adef (Config.anyValue 24 s.draws))
      fun m => packedColor s.req.adef (mono24 m) := rfl

end

/-- Settles O34, by the three cases of BITIX and DEBUG_ASSERT: the selected bit, the draws, PRECONDITION. -/
theorem decodeMonoResults : Obligations.DecodeMonoResults := by
  refine ⟨fun s v ready read => ⟨fun legal => ?_, fun above release => ?_, fun above debug => ?_⟩, rfl⟩
  · exact ⟨answers_of_monoLit ready read legal (exec_decode565A5Mono s) (color565_mono565 ..),
      answers_of_monoLit ready read legal (exec_decode565A8Mono s) (color565_mono565 ..),
      answers_of_monoLit ready read legal (exec_decodeArgbMono s) rfl,
      answers_of_monoLit ready read legal (exec_decodePacked32Mono s) (packedColor_mono24 ..)⟩
  · exact ⟨answers_of_monoDrawn ready read above release (exec_decode565A5Mono s) (color565_byte ..),
      answers_of_monoDrawn ready read above release (exec_decode565A8Mono s) (color565_byte ..),
      answers_of_monoDrawn ready read above release (exec_decodeArgbMono s) rfl,
      answers_of_monoDrawn ready read above release (exec_decodePacked32Mono s) rfl⟩
  · simp only [List.forall_mem_cons]
    exact ⟨entersFault_of_monoDebug ready above debug (exec_decode565A5Mono s),
      entersFault_of_monoDebug ready above debug (exec_decode565A8Mono s),
      entersFault_of_monoDebug ready above debug (exec_decodeArgbMono s),
      entersFault_of_monoDebug ready above debug (exec_decodePacked32Mono s), nofun⟩

/-! ## ADEF in YA -/

section
variable {s t : State}

/-- A pixel read that ends in a next state read a value. -/
theorem withPixel_next {fmt : PixelFormat} {body : Word → Result} (h : withPixel fmt s body = .next t) :
    ∃ v, body v = .next t := by
  cases read : s.memRead s.req.addr fmt.readWidth with
  | none => rw [withPixel_stuck read] at h; cases h
  | some v => rw [withPixel_read read] at h; exact ⟨v, h⟩

theorem decodeRoutine_ya {fmt : PixelFormat} {k : Word → Response} (ready : s.Ready)
    (h : decodeRoutine fmt s k = .next t) (adef : ∀ v, (k v).ya = some s.req.adef) : t.rsp.ya = some s.req.adef := by
  rw [decodeRoutine, transact_ready ready] at h
  obtain ⟨v, h⟩ := withPixel_next h
  cases h
  exact adef v

/-- A Mono routine that enters no fault responds with the selected bit or with its draws. -/
theorem decodeMonoRoutine_ya {n : Nat} {drawn : Response} {lit : Bool → Response} (ready : s.Ready)
    (h : decodeMonoRoutine s n drawn lit = .next t) (notFaulted : t.faulted = false)
    (adefDrawn : drawn.ya = some s.req.adef) (adefLit : ∀ m, (lit m).ya = some s.req.adef) :
    t.rsp.ya = some s.req.adef := by
  rw [decodeMonoRoutine, transact_ready ready] at h
  cases ok : decide (s.req.bitix ≤ 7#8) with
  | true =>
    rw [ok, checked_true] at h
    obtain ⟨v, h⟩ := withPixel_next h
    cases h
    exact adefLit _
  | false =>
    cases debug : s.params.debugAssert with
    | true =>
      rw [ok, checked_debug debug] at h
      cases h
      rw [State.enterFault_faulted] at notFaulted
      cases notFaulted
    | false =>
      rw [ok, checked_release debug] at h
      obtain ⟨v, h⟩ := withPixel_next h
      cases h
      exact adefDrawn

end

/-- Settles O35: each of the twelve drives ADEF in YA whatever it reads, and Mono also whatever it draws. -/
theorem alphaDefaultIsReturnedUnchanged : Obligations.AlphaDefaultIsReturnedUnchanged := by
  intro i s t listed ready answer notFaulted
  cases i with
  | decode565A5Rgb565 | decode565A5Rgb888 | decode565A5Grayscale | decode565A8Rgb565 | decode565A8Rgb888
  | decode565A8Grayscale => exact decodeRoutine_ya ready answer fun _ => color565_ya ..
  | decodeArgbRgb565 | decodeArgbRgb888 | decodeArgbGrayscale => exact decodeRoutine_ya ready answer fun _ => rfl
  | decode565A5Mono =>
    rw [exec_decode565A5Mono] at answer
    exact decodeMonoRoutine_ya ready answer notFaulted (color565_ya ..) fun _ => color565_ya ..
  | decode565A8Mono =>
    rw [exec_decode565A8Mono] at answer
    exact decodeMonoRoutine_ya ready answer notFaulted (color565_ya ..) fun _ => color565_ya ..
  | decodeArgbMono =>
    rw [exec_decodeArgbMono] at answer
    exact decodeMonoRoutine_ya ready answer notFaulted rfl fun _ => rfl
  | _ => simp at listed

end Sys2Proof.Machine
end

section
/-! Proofs about the conversion library (spec/42_conversion.md R150-R166): the fields each command drives from operand
A, and the round trip through RGB565. -/

namespace Sys2Proof.Machine
open Sys2Proof.Claims

/-! ## Expansion by zero fill (R150) -/

/-- Expansion as a number: a value moved up by `k` bits that fits in `n` bits. -/
theorem zeroFill_toNat {w n k : Nat} (v : BitVec w) (fits : w + k ≤ n) :
    (v.zeroExtend n <<< k).toNat = v.toNat <<< k := by
  have widened : (v.zeroExtend n).toNat = v.toNat := BitVec.toNat_setWidth_of_le (by omega)
  have noOverflow : v.toNat <<< k < 2 ^ n := by
    calc v.toNat <<< k = v.toNat * 2 ^ k := Nat.shiftLeft_eq ..
      _ < 2 ^ w * 2 ^ k := Nat.mul_lt_mul_of_pos_right v.isLt (Nat.two_pow_pos k)
      _ = 2 ^ (w + k) := (Nat.pow_add ..).symm
      _ ≤ 2 ^ n := Nat.pow_le_pow_right (by decide) fits
  rw [BitVec.toNat_shiftLeft, widened, Nat.mod_eq_of_lt noOverflow]

/-- Expansion undoes a narrowing that drops only zeros. -/
theorem zeroFill_n8to5 {v : Byte} (low : v.toNat % 8 = 0) : (n8to5 v).zeroExtend 8 <<< 3 = v := by
  apply BitVec.eq_of_toNat_eq
  rw [zeroFill_toNat _ (by decide), n8to5_toNat, Nat.shiftLeft_eq]
  omega

theorem zeroFill_n8to6 {v : Byte} (low : v.toNat % 4 = 0) : (n8to6 v).zeroExtend 8 <<< 2 = v := by
  apply BitVec.eq_of_toNat_eq
  rw [zeroFill_toNat _ (by decide), n8to6_toNat, Nat.shiftLeft_eq]
  omega

/-- The two shifts of each channel in R150 as one. -/
theorem z565to888_eq_or (c : BitVec 16) :
    z565to888 c = (up (r5 c) <<< 19) ||| (up (g6 c) <<< 10) ||| (up (b5 c) <<< 3) := by
  rw [z565to888, ← BitVec.shiftLeft_add, ← BitVec.shiftLeft_add]
  rfl

theorem z565to888_toNat (c : BitVec 16) :
    (z565to888 c).toNat = 524288 * (r5 c).toNat + 1024 * (g6 c).toNat + 8 * (b5 c).toNat := by
  have hg := (g6 c).isLt
  have hb := (b5 c).isLt
  have blue : (b5 c).toNat <<< 3 = 8 * (b5 c).toNat := by rw [Nat.shiftLeft_eq, Nat.mul_comm]
  simp only [z565to888_eq_or, up, BitVec.toNat_or]
  rw [zeroFill_toNat _ (by decide), zeroFill_toNat _ (by decide), zeroFill_toNat _ (by decide), blue, Nat.or_assoc,
    shift_or_toNat _ _ 10 (by omega), shift_or_toNat _ _ 19 (by omega)]
  omega

theorem up_pack888_toNat (r g b : Byte) :
    (up (pack888 r g b)).toNat = 65536 * r.toNat + 256 * g.toNat + b.toNat := by
  rw [up, BitVec.zeroExtend_eq_setWidth, BitVec.toNat_setWidth_of_le (by decide), pack888_toNat]

/-- The color of R154 is the channels of R152, packed. -/
theorem z565to888_eq_pack888 (c : BitVec 16) : z565to888 c =
    up (pack888 ((r5 c).zeroExtend 8 <<< 3) ((g6 c).zeroExtend 8 <<< 2) ((b5 c).zeroExtend 8 <<< 3)) := by
  apply BitVec.eq_of_toNat_eq
  rw [z565to888_toNat, up_pack888_toNat, zeroFill_toNat _ (by decide), zeroFill_toNat _ (by decide),
    zeroFill_toNat _ (by decide)]
  simp only [Nat.shiftLeft_eq]
  omega

/-! ## The fields of a packed color -/

section
variable (r : BitVec 5) (g : BitVec 6) (b : BitVec 5)

theorem r5_pack565 : r5 (pack565 r g b) = r := by
  apply BitVec.eq_of_toNat_eq
  rw [r5_toNat, pack565_toNat]
  omega

theorem g6_pack565 : g6 (pack565 r g b) = g := by
  apply BitVec.eq_of_toNat_eq
  rw [g6_toNat, pack565_toNat]
  omega

theorem b5_pack565 : b5 (pack565 r g b) = b := by
  apply BitVec.eq_of_toNat_eq
  rw [b5_toNat, pack565_toNat]
  omega

end

theorem low16_up (c : BitVec 16) : low16 (up c) = c := by
  apply BitVec.eq_of_toNat_eq
  rw [low16, field_toNat, up, BitVec.zeroExtend_eq_setWidth, BitVec.toNat_setWidth_of_le (by decide)]
  omega

section
variable (r g b : Byte)

theorem laneR_up_pack888 : laneR (up (pack888 r g b)) = r := by
  apply BitVec.eq_of_toNat_eq
  rw [laneR, field_toNat, up_pack888_toNat]
  omega

theorem laneG_up_pack888 : laneG (up (pack888 r g b)) = g := by
  apply BitVec.eq_of_toNat_eq
  rw [laneG, field_toNat, up_pack888_toNat]
  omega

theorem laneB_up_pack888 : laneB (up (pack888 r g b)) = b := by
  apply BitVec.eq_of_toNat_eq
  rw [laneB, field_toNat, up_pack888_toNat]
  omega

theorem lanesTo565_up_pack888 : lanesTo565 (up (pack888 r g b)) = pack565 (n8to5 r) (n8to6 g) (n8to5 b) := by
  rw [lanesTo565, laneR_up_pack888, laneG_up_pack888, laneB_up_pack888]

/-- Narrowing a color and expanding it again, where narrowing drops only zeros (R166). -/
theorem z565to888_lanesTo565 (red : r.toNat % 8 = 0) (green : g.toNat % 4 = 0) (blue : b.toNat % 8 = 0) :
    z565to888 (lanesTo565 (up (pack888 r g b))) = up (pack888 r g b) := by
  rw [lanesTo565_up_pack888, z565to888_eq_pack888, r5_pack565, g6_pack565, b5_pack565, zeroFill_n8to5 red,
    zeroFill_n8to6 green, zeroFill_n8to5 blue]

end

/-! ## What the responses of the conversions drive -/

/-- The color of R154 from the fields of the operand. -/
theorem z565to888_low16 (v : Word) : z565to888 (low16 v) =
    (up (v.extractLsb 15 11) <<< 19) ||| (up (v.extractLsb 10 5) <<< 10) ||| (up (v.extractLsb 4 0) <<< 3) := by
  rw [z565to888_eq_or, r5_low16, g6_low16, b5_low16]
  rfl

theorem components_low16 (v : Word) :
    components ((r5 (low16 v)).zeroExtend 8 <<< 3) ((g6 (low16 v)).zeroExtend 8 <<< 2)
      ((b5 (low16 v)).zeroExtend 8 <<< 3) =
    { yr := some ((v.extractLsb 15 11).zeroExtend 8 <<< 3), yg := some ((v.extractLsb 10 5).zeroExtend 8 <<< 2)
      yb := some ((v.extractLsb 4 0).zeroExtend 8 <<< 3) } := by
  rw [r5_low16, g6_low16, b5_low16]
  rfl

theorem inY0_z565to888 (v : Word) : inY0 (z565to888 (low16 v)) =
    { y0 := some ((up (v.extractLsb 15 11) <<< 19) ||| (up (v.extractLsb 10 5) <<< 10) |||
        (up (v.extractLsb 4 0) <<< 3)) } := by
  rw [inY0_word, z565to888_low16]

/-- The alpha of an ARGB8565 operand over its color (R157). -/
theorem inY0_argb8565 (v : Word) : inY0 (((argb8565Alpha v).zeroExtend 32 <<< 24) ||| z565to888 (low16 v)) =
    { y0 := some ((up (v.extractLsb 23 16) <<< 24) ||| ((up (v.extractLsb 15 11) <<< 19) |||
        (up (v.extractLsb 10 5) <<< 10) ||| (up (v.extractLsb 4 0) <<< 3))) } := by
  rw [inY0_word, z565to888_low16]
  rfl

/-- The 8-bit alpha shifted right by 0 is the lane itself (R155). -/
theorem color565_lanes_a8 (v : Word) : color565 (lanesTo565 v) (laneA v >>> 0) =
    { y0 := some (up (lanesTo565 v)), ya := some (laneA v) } := by
  rw [BitVec.ushiftRight_zero, color565_byte]

/-- A[0] as a number. -/
theorem getLsbD_zero_eq (v : Word) : v.getLsbD 0 = decide (v.toNat % 2 = 1) := by
  rw [BitVec.getLsbD, Nat.testBit_zero]

/-- One of two colors by A[0] (R162, R163). -/
theorem inY0_ite {w : Nat} (v : Word) (white black : BitVec w) :
    inY0 (if v.getLsbD 0 then white else black) = { y0 := some (if v.toNat % 2 = 1 then up white else up black) } := by
  rw [getLsbD_zero_eq, inY0]
  by_cases odd : v.toNat % 2 = 1 <;> simp [odd, up]

/-! ## The answers of the conversions -/

section
variable {s : State} (ready : s.Ready)
include ready

/-- A conversion completes with what it drives from operand A: `meaning` names the response, `drives` its fields. -/
theorem answers_of_convert {i : Instr} {k r : Response} (meaning : exec i s = convert s k) (drives : k = r) :
    Answers i s r :=
  answers_of_respond ready (meaning.trans (by rw [convert, drives]))

theorem cvtRgbTo565_answers : Answers .cvtRgbTo565 s (inY0 (lanesTo565 s.req.a)) :=
  answers_of_convert ready rfl rfl

theorem cvt565To888_answers : Answers .cvt565To888 s { y0 := some (z565to888 (low16 s.req.a)) } :=
  answers_of_convert ready rfl (inY0_word _)

end

/-- Settles O41: the color answered is `lanesTo565` of the operand, the one answered to it `z565to888` of that, and
`z565to888_lanesTo565` is the round trip. -/
theorem rgbTo565AndBackRoundTrip : Obligations.RgbTo565AndBackRoundTrip := by
  intro s r g b ready red green blue
  refine ⟨_, up (lanesTo565 (up (pack888 r g b))), _, cvtRgbTo565_answers ready, rfl, cvt565To888_answers ready,
    congrArg some ?_⟩
  calc z565to888 (low16 (up (lanesTo565 (up (pack888 r g b)))))
    _ = z565to888 (lanesTo565 (up (pack888 r g b))) := by rw [low16_up]
    _ = up (pack888 r g b) := z565to888_lanesTo565 r g b red green blue

/-- Settles O37: each field is a lane of A narrowed, or a field of A[15:0] expanded. -/
theorem rgb565ConversionResults : Obligations.Rgb565ConversionResults :=
  ⟨fun s ready =>
    ⟨cvtRgbTo565_answers ready,
      answers_of_convert ready rfl (components_low16 s.req.a),
      answers_of_convert ready rfl rfl,
      answers_of_convert ready rfl (inY0_z565to888 s.req.a)⟩, rfl⟩

/-- Settles O38: the alpha lane is driven beside the color, and R157 puts it above the expanded color. -/
theorem argb8888ConversionResults : Obligations.Argb8888ConversionResults :=
  ⟨fun s ready =>
    ⟨answers_of_convert ready rfl (color565_lanes_a8 s.req.a),
      answers_of_convert ready rfl (color565_byte _ (laneA s.req.a >>> 3)),
      answers_of_convert ready rfl (inY0_argb8565 s.req.a)⟩, rfl⟩

/-- Settles O39: the gray conversions drive A[7:0] in every channel, the mono conversions choose by A[0]. -/
theorem grayAndMonoToColorResults : Obligations.GrayAndMonoToColorResults :=
  ⟨fun s ready =>
    ⟨answers_of_convert ready rfl rfl, answers_of_convert ready rfl rfl,
      answers_of_convert ready rfl (inY0_ite s.req.a 0xFFFF#16 0#16),
      answers_of_convert ready rfl (inY0_ite s.req.a 0xFFFFFF#24 0#24)⟩, rfl⟩

/-- Settles O40: the parameters stay opaque; each is applied to the operand bits its rule names. -/
theorem openConversionsApplyTheirParameters : Obligations.OpenConversionsApplyTheirParameters :=
  ⟨fun _ ready =>
    ⟨answers_of_convert ready rfl rfl, answers_of_convert ready rfl rfl,
      answers_of_convert ready rfl rfl, answers_of_convert ready rfl rfl⟩, rfl⟩

end Sys2Proof.Machine
end

section
/-! Proofs about the packed 565 blend (spec/43_blend565.md R180-R189): the lanes of the spread word, the blend lane by
lane, and what the direct and the prepared commands answer. -/

namespace Sys2Proof.Machine
open Sys2Proof.Claims

/-! ## Masking with the literal mask keeps three lanes -/

/-- Masking with `n` bits from bit `k` on keeps the field that stands there. -/
theorem nat_and_field (x n k : Nat) : x &&& ((2 ^ n - 1) <<< k) = (x / 2 ^ k % 2 ^ n) <<< k := by
  apply Nat.eq_of_testBit_eq
  intro i
  by_cases below : i < k
  · simp [Nat.testBit_shiftLeft, Nat.not_le.mpr below]
  · have above : i - k + k = i := by omega
    simp [Nat.testBit_shiftLeft, Nat.testBit_div_two_pow, above, Nat.le_of_not_lt below, Bool.and_comm]

/-- A word under M565: blue in [4:0], red in [15:11], green in [26:21] and 0 elsewhere (R180). -/
theorem and_mask565_toNat (w : Word) : (w &&& 0x07E0F81F#32).toNat =
    w.toNat % 32 + 2048 * (w.toNat / 2048 % 32) + 2097152 * (w.toNat / 2097152 % 64) := by
  have lanes : (0x07E0F81F#32).toNat = ((2 ^ 6 - 1) <<< 21) ||| ((2 ^ 5 - 1) <<< 11) ||| ((2 ^ 5 - 1) <<< 0) := by
    decide
  rw [BitVec.toNat_and, lanes, Nat.and_or_distrib_left, Nat.and_or_distrib_left, nat_and_field, nat_and_field,
    nat_and_field, Nat.shiftLeft_zero, Nat.or_assoc, shift_or_toNat _ _ 11 (by omega), shift_or_toNat _ _ 21 (by omega)]
  omega

/-- A color is its three fields. -/
theorem color_toNat (c : BitVec 16) : c.toNat = 2048 * (r5 c).toNat + 32 * (g6 c).toNat + (b5 c).toNat := by
  rw [r5_toNat, g6_toNat, b5_toNat]
  omega

/-- The spread word of a color (R180). -/
theorem spread565_toNat (c : BitVec 16) : (spread565 0x07E0F81F#32 c).toNat =
    (b5 c).toNat + 2048 * (r5 c).toNat + 2097152 * (g6 c).toNat := by
  have both : (c.zeroExtend 32 ||| (c.zeroExtend 32 <<< 16)).toNat = c.toNat * 2 ^ 16 + c.toNat := by
    rw [BitVec.toNat_or, zeroFill_toNat _ (by decide), BitVec.zeroExtend_eq_setWidth,
      BitVec.toNat_setWidth_of_le (by decide), Nat.or_comm, shift_or_toNat _ _ 16 c.isLt]
  have fits := c.isLt
  have green : (c.toNat * 2 ^ 16 + c.toNat) / 2097152 = c.toNat / 32 := by omega
  have red : (c.toNat * 2 ^ 16 + c.toNat) / 2048 = 32 * c.toNat + c.toNat / 2048 := by omega
  have redLane : (32 * c.toNat + c.toNat / 2048) % 32 = c.toNat / 2048 := by omega
  have blue : (c.toNat * 2 ^ 16 + c.toNat) % 32 = c.toNat % 32 := by omega
  rw [spread565, and_mask565_toNat, both, green, red, redLane, blue, r5_toNat, g6_toNat, b5_toNat]

/-- A word under a mask has no bit outside it. -/
theorem and_mask_outside (w m : Word) : (w &&& m) &&& ~~~m = 0#32 := by
  simp [BitVec.and_assoc]

/-- A word with no bit outside a mask is itself under the mask. -/
theorem and_mask_eq_self {w m : Word} (inside : w &&& ~~~m = 0#32) : w &&& m = w := by
  calc w &&& m
    _ = (w &&& m) ||| (w &&& ~~~m) := by rw [inside, BitVec.or_zero]
    _ = w := by rw [← BitVec.and_or_distrib_left, BitVec.or_not_self, BitVec.and_allOnes]

theorem spread565_and_mask (m : Word) (c : BitVec 16) : spread565 m c &&& m = spread565 m c :=
  and_mask_eq_self (and_mask_outside _ _)

theorem spread565_injective {c d : BitVec 16} (same : spread565 0x07E0F81F#32 c = spread565 0x07E0F81F#32 d) :
    c = d := by
  have num := congrArg BitVec.toNat same
  rw [spread565_toNat, spread565_toNat] at num
  have := (r5 c).isLt
  have := (b5 c).isLt
  have := (r5 d).isLt
  have := (b5 d).isLt
  apply BitVec.eq_of_toNat_eq
  rw [color_toNat c, color_toNat d]
  omega

/-- A word with no bit outside the mask is the spread word of the color packed from its lanes. -/
theorem exists_spread565_eq {w : Word} (inside : w &&& ~~~0x07E0F81F#32 = 0#32) :
    ∃ c, spread565 0x07E0F81F#32 c = w := by
  refine ⟨pack565 (w.extractLsb' 11 5) (w.extractLsb' 21 6) (w.extractLsb' 0 5), BitVec.eq_of_toNat_eq ?_⟩
  have lanes := and_mask565_toNat w
  rw [and_mask_eq_self inside] at lanes
  rw [spread565_toNat, r5_pack565, g6_pack565, b5_pack565, field_toNat, field_toNat, field_toNat, lanes]
  omega

/-! ## The core blend as a sum whose lanes are folded into one half -/

/-- The two halves of a word together: the last line of R181. -/
def foldHalves (r : Word) : BitVec 16 := (r ||| (r >>> 16)).truncate 16

/-- The sum of R181 before it is masked, of a foreground word over a background word. -/
def blendSum (f b : Word) (alpha : Byte) : Word := (((f - b) * alpha.zeroExtend 32) >>> 5) + b

theorem blend565core_eq_foldHalves (m f : Word) (bg : BitVec 16) (alpha : Byte) :
    blend565core m f bg alpha = foldHalves (blendSum f (spread565 m bg) alpha &&& m) := rfl

/-- Folding drops bits [31:16], as R181 writes it. -/
theorem foldHalves_eq (r : Word) : foldHalves r = ((r ||| (r >>> 16)) &&& 0xFFFF#32).extractLsb 15 0 := by
  have low : ((r ||| (r >>> 16)) &&& 0xFFFF#32).toNat % 2 ^ 16 = (r ||| (r >>> 16)).toNat % 2 ^ 16 := by
    have mask : (0xFFFF#32).toNat = 2 ^ 16 - 1 := by decide
    rw [BitVec.toNat_and, mask, Nat.and_two_pow_sub_one_eq_mod, Nat.mod_mod]
  calc foldHalves r
    _ = low16 (r ||| (r >>> 16)) := by
      rw [foldHalves, low16, BitVec.truncate_eq_setWidth, BitVec.setWidth_eq_extractLsb' (by decide)]
    _ = low16 ((r ||| (r >>> 16)) &&& 0xFFFF#32) := (low16_congr low (by decide)).symm

/-- The core blend is that of R181, in every mask. -/
theorem blend565core_eq_blend565Of (m f : Word) (bg : BitVec 16) (alpha : Byte) :
    blend565core m f bg alpha = blend565Of m f bg alpha :=
  foldHalves_eq _

/-- The lanes of a masked word, folded, are the fields of a color: red, green and blue do not overlap. -/
theorem foldHalves_mask565_toNat (w : Word) : (foldHalves (w &&& 0x07E0F81F#32)).toNat =
    2048 * (w.toNat / 2048 % 32) + 32 * (w.toNat / 2097152 % 64) + w.toNat % 32 := by
  rw [foldHalves, BitVec.truncate_eq_setWidth, BitVec.toNat_setWidth, BitVec.toNat_or, BitVec.toNat_ushiftRight,
    Nat.or_mod_two_pow, and_mask565_toNat, Nat.shiftRight_eq_div_pow]
  generalize red : w.toNat / 2048 % 32 = r
  generalize green : w.toNat / 2097152 % 64 = g
  generalize blue : w.toNat % 32 = b
  have lowHalf : (b + 2048 * r + 2097152 * g) % 2 ^ 16 = (r <<< 11) ||| b := by
    rw [shift_or_toNat _ _ 11 (by omega)]
    omega
  have highHalf : (b + 2048 * r + 2097152 * g) / 2 ^ 16 % 2 ^ 16 = g <<< 5 := by
    rw [Nat.shiftLeft_eq]
    omega
  rw [lowHalf, highHalf, Nat.or_assoc, Nat.or_comm b, shift_or_toNat _ _ 5 (by omega), shift_or_toNat _ _ 11 (by omega)]
  omega

/-- Folding undoes spreading. -/
theorem foldHalves_spread565 (c : BitVec 16) : foldHalves (spread565 0x07E0F81F#32 c) = c := by
  apply BitVec.eq_of_toNat_eq
  have red := (r5 c).isLt
  have blue := (b5 c).isLt
  have green := (g6 c).isLt
  rw [← spread565_and_mask, foldHalves_mask565_toNat, spread565_toNat, color_toNat c]
  omega

/-- At alpha 0 the blend of any foreground word is the background (R188). -/
theorem blend565core_alpha_zero (f : Word) (bg : BitVec 16) : blend565core 0x07E0F81F#32 f bg 0#8 = bg := by
  have sum : blendSum f (spread565 0x07E0F81F#32 bg) 0#8 = spread565 0x07E0F81F#32 bg := by
    simp [blendSum]
  rw [blend565core_eq_foldHalves, sum, spread565_and_mask, foldHalves_spread565]

/-! ## The lane law (R187) -/

/-- A lane of the blend lies between the lanes it is blended from. -/
theorem lane565_between {a f b : Int} (low : 0 ≤ a) (high : a ≤ 31) :
    min f b ≤ lane565 a f b ∧ lane565 a f b ≤ max f b := by
  rw [lane565]
  rcases Int.le_total b f with above | below
  · have atLeast : 0 ≤ a * (f - b) := Int.mul_nonneg low (by omega)
    have atMost : a * (f - b) ≤ 31 * (f - b) := Int.mul_le_mul_of_nonneg_right high (by omega)
    omega
  · have atMost : 0 ≤ a * (b - f) := Int.mul_nonneg low (by omega)
    have atLeast : a * (b - f) ≤ 31 * (b - f) := Int.mul_le_mul_of_nonneg_right high (by omega)
    have sign : a * (f - b) = -(a * (b - f)) := by rw [← Int.mul_neg, Int.neg_sub]
    omega

/-- A factor of a wrapped product may wrap before. -/
theorem emod_mul_wraps (x y m : Int) : x % m * y % m = x * y % m := by
  rw [Int.mul_emod, Int.emod_emod, ← Int.mul_emod]

/-- The sum below bit 27, over the integers: there the logical shift of the wrapped product is floor division. -/
theorem blendSum_emod (f b : Word) (alpha : Byte) : ((blendSum f b alpha).toNat : Int) % 2 ^ 27 =
    (b.toNat + (f.toNat - b.toNat) * alpha.toNat / 32) % 2 ^ 27 := by
  have product : (((f - b) * alpha.zeroExtend 32).toNat : Int) = (f.toNat - b.toNat) * alpha.toNat % 2 ^ 32 := by
    have wide : (alpha.zeroExtend 32).toNat = alpha.toNat := BitVec.toNat_setWidth_of_le (by decide)
    have difference : ((f - b).toNat : Int) = (f.toNat - b.toNat) % 2 ^ 32 := by
      have := f.isLt
      have := b.isLt
      rw [BitVec.toNat_sub]
      omega
    rw [BitVec.toNat_mul, wide, Int.natCast_emod, Int.natCast_mul, difference]
    exact emod_mul_wraps _ _ _
  have sum : (blendSum f b alpha).toNat = (((f - b) * alpha.zeroExtend 32).toNat / 32 + b.toNat) % 2 ^ 32 := by
    rw [blendSum, BitVec.toNat_add, BitVec.toNat_ushiftRight, Nat.shiftRight_eq_div_pow]
  generalize (f.toNat - b.toNat : Int) * alpha.toNat = p at product ⊢
  omega

/-- The integer of three lanes at the bits of the spread word. -/
def atLanes (r g b : Int) : Int := b + 2048 * r + 2097152 * g

/-- Each lane's remainder stays in the guard bits above the lane before it, so no carry crosses a lane. -/
theorem lanes_of_blendSum {a fr fg fb br bg bb : Int} {sum : Nat}
    (red : 0 ≤ lane565 a fr br ∧ lane565 a fr br < 32) (green : 0 ≤ lane565 a fg bg ∧ lane565 a fg bg < 64)
    (blue : 0 ≤ lane565 a fb bb ∧ lane565 a fb bb < 32)
    (blended : (sum : Int) % 2 ^ 27 = (atLanes br bg bb + (atLanes fr fg fb - atLanes br bg bb) * a / 32) % 2 ^ 27) :
    ((sum / 2048 % 32 : Nat) : Int) = lane565 a fr br ∧ ((sum / 2097152 % 64 : Nat) : Int) = lane565 a fg bg ∧
      ((sum % 32 : Nat) : Int) = lane565 a fb bb := by
  have products : (atLanes fr fg fb - atLanes br bg bb) * a =
      a * (fb - bb) + 2048 * (a * (fr - br)) + 2097152 * (a * (fg - bg)) := by
    unfold atLanes
    grind
  rw [products] at blended
  simp only [lane565, atLanes] at *
  generalize a * (fr - br) = pr at *
  generalize a * (fg - bg) = pg at *
  generalize a * (fb - bb) = pb at *
  omega

theorem spread565_eq_atLanes (c : BitVec 16) :
    ((spread565 0x07E0F81F#32 c).toNat : Int) = atLanes (r5 c).toNat (g6 c).toNat (b5 c).toNat := by
  rw [spread565_toNat, atLanes]
  omega

/-- The fields of the core blend are the lanes of its sum. -/
theorem blend565core_fields (f : Word) (bg : BitVec 16) (alpha : Byte) :
    let out := blend565core 0x07E0F81F#32 f bg alpha
    let sum := (blendSum f (spread565 0x07E0F81F#32 bg) alpha).toNat
    (r5 out).toNat = sum / 2048 % 32 ∧ (g6 out).toNat = sum / 2097152 % 64 ∧ (b5 out).toNat = sum % 32 := by
  intro out sum
  have folded : out.toNat = 2048 * (sum / 2048 % 32) + 32 * (sum / 2097152 % 64) + sum % 32 :=
    foldHalves_mask565_toNat _
  rw [r5_toNat, g6_toNat, b5_toNat, folded]
  omega

/-- The fields of the blend of two colors are their lanes blended. -/
theorem blend565core_lanes (fg bg : BitVec 16) {a : Byte} (legal : a.toNat ≤ 31) :
    let out := blend565core 0x07E0F81F#32 (spread565 0x07E0F81F#32 fg) bg a
    ((r5 out).toNat : Int) = lane565 a.toNat (r5 fg).toNat (r5 bg).toNat ∧
    ((g6 out).toNat : Int) = lane565 a.toNat (g6 fg).toNat (g6 bg).toNat ∧
    ((b5 out).toNat : Int) = lane565 a.toNat (b5 fg).toNat (b5 bg).toNat := by
  intro out
  obtain ⟨red, green, blue⟩ := blend565core_fields (spread565 0x07E0F81F#32 fg) bg a
  have between (f b : Int) := lane565_between (a := a.toNat) (f := f) (b := b) (by omega) (by omega)
  have inRed := between (r5 fg).toNat (r5 bg).toNat
  have inGreen := between (g6 fg).toNat (g6 bg).toNat
  have inBlue := between (b5 fg).toNat (b5 bg).toNat
  have sum := blendSum_emod (spread565 0x07E0F81F#32 fg) (spread565 0x07E0F81F#32 bg) a
  rw [spread565_eq_atLanes, spread565_eq_atLanes] at sum
  rw [red, green, blue]
  exact lanes_of_blendSum (by omega) (by omega) (by omega) sum

/-- A field that is a blended lane lies between the fields it is blended from. -/
theorem field_between {a f b out : Nat} (legal : a ≤ 31) (lane : (out : Int) = lane565 a f b) :
    min f b ≤ out ∧ out ≤ max f b := by
  have between := lane565_between (a := a) (f := f) (b := b) (by omega) (by omega)
  rw [← lane] at between
  omega

/-- Settles O46: `blend565core_lanes` gives the lanes and `field_between` their range. -/
theorem blend565LaneLaw : Obligations.Blend565LaneLaw := by
  intro fg bg a legal out
  obtain ⟨red, green, blue⟩ := blend565core_lanes fg bg legal
  obtain ⟨redLow, redHigh⟩ := field_between legal red
  obtain ⟨greenLow, greenHigh⟩ := field_between legal green
  obtain ⟨blueLow, blueHigh⟩ := field_between legal blue
  exact ⟨red, green, blue, greenLow, greenHigh, redLow, redHigh, blueLow, blueHigh⟩

/-! ## What a command with a precondition answers -/

section
variable {i : Instr} {s : State} {n : Nat} {r k drawn : Response} {ok : Bool} (ready : s.Ready)
  (meaning : exec i s = transact s (checked ok s (respondDrawn n drawn s) (.next (s.respond k))))
include ready meaning

/-- Where its precondition holds, a command completes: `meaning` names the response, `drives` its fields. -/
theorem answers_of_checked (holds : ok = true) (drives : k = r) : Answers i s r := by
  rw [Answers, meaning, transact_ready ready, holds, checked_true, drives]
  rfl

/-- Where its precondition fails, it completes with its draws (R225). -/
theorem answers_of_checked_drawn (fails : ok = false) (release : s.params.debugAssert = false) (drives : drawn = r) :
    Answers i s r n := by
  rw [Answers, meaning, transact_ready ready, fails, checked_release release, drives]
  rfl

/-- Where its precondition fails in debug mode, it enters PRECONDITION (R224). -/
theorem entersFault_of_checked_debug (fails : ok = false) (debug : s.params.debugAssert = true) :
    EntersFault (exec i s) s 0x07#8 := by
  rw [meaning, transact_ready ready, fails, checked_debug debug]
  exact raiseFault_entersFault .precondition s

end

/-! ## The preconditions of the 565 blends (R182, R185, R186) -/

section
variable {s : State}

theorem alpha_legal (legal : s.req.alpha.toNat ≤ 31) : decide (s.req.alpha ≤ 31#8) = true :=
  decide_eq_true legal

theorem alpha_illegal (above : 31 < s.req.alpha.toNat) : decide (s.req.alpha ≤ 31#8) = false :=
  decide_eq_false (Nat.not_le.mpr above)

theorem prepared565_inside (inside : s.req.a &&& ~~~s.params.m565 = 0#32) : prepared565 s = true :=
  decide_eq_true inside

theorem prepared565_outside (outside : s.req.a &&& ~~~s.params.m565 ≠ 0#32) : prepared565 s = false :=
  decide_eq_false outside

theorem blend565p_legal (legal : s.req.alpha.toNat ≤ 31) (inside : s.req.a &&& ~~~s.params.m565 = 0#32) :
    (decide (s.req.alpha ≤ 31#8) && prepared565 s) = true := by
  rw [alpha_legal legal, prepared565_inside inside, Bool.and_self]

theorem blend565p_illegal (fails : 31 < s.req.alpha.toNat ∨ s.req.a &&& ~~~s.params.m565 ≠ 0#32) :
    (decide (s.req.alpha ≤ 31#8) && prepared565 s) = false := by
  rcases fails with above | outside
  · rw [alpha_illegal above, Bool.false_and]
  · rw [prepared565_outside outside, Bool.and_false]

/-! ## What the 565 commands answer; `blend` names the color -/

variable {y : BitVec 16} (ready : s.Ready)
include ready

theorem prep565_answers : Answers .prep565 s { y0 := some (spread565 s.params.m565 (low16 s.req.a)) } := by
  rw [← inY0_word]
  exact answers_of_respond ready rfl

theorem blend565_answers (legal : s.req.alpha.toNat ≤ 31)
    (blend : blend565core s.params.m565 (spread565 s.params.m565 (low16 s.req.a)) (low16 s.req.b) s.req.alpha = y) :
    Answers .blend565 s { y0 := some (up y) } :=
  answers_of_checked ready rfl (alpha_legal legal) (by rw [blend]; rfl)

theorem blend565A8_answers
    (blend : blend565core s.params.m565 (spread565 s.params.m565 (low16 s.req.a)) (low16 s.req.b)
      (s.req.alpha >>> 3) = y) : Answers .blend565A8 s { y0 := some (up y) } :=
  answers_of_respond ready (by rw [← blend]; rfl)

theorem blend565p_answers (legal : s.req.alpha.toNat ≤ 31) (inside : s.req.a &&& ~~~s.params.m565 = 0#32)
    (blend : blend565core s.params.m565 s.req.a (low16 s.req.b) s.req.alpha = y) :
    Answers .blend565p s { y0 := some (up y) } :=
  answers_of_checked ready rfl (blend565p_legal legal inside) (by rw [blend]; rfl)

theorem blend565pA8_answers (inside : s.req.a &&& ~~~s.params.m565 = 0#32)
    (blend : blend565core s.params.m565 s.req.a (low16 s.req.b) (s.req.alpha >>> 3) = y) :
    Answers .blend565pA8 s { y0 := some (up y) } :=
  answers_of_checked ready rfl (prepared565_inside inside) (by rw [blend]; rfl)

end

/-- Settles O44: the lanes are `spread565_toNat`, and spreading is a bijection by `exists_spread565_eq` and
`spread565_injective`. -/
theorem prep565SpreadsTheLanes : Obligations.Prep565SpreadsTheLanes := by
  refine ⟨fun s ready => ⟨prep565_answers ready, and_mask_outside _ _⟩, fun _ _ => rfl, fun c => ?_,
    fun w inside => ?_, rfl⟩
  · rw [spread565_toNat, r5_toNat, g6_toNat, b5_toNat]
  · obtain ⟨c, rfl⟩ := exists_spread565_eq inside
    exact ⟨c, rfl, fun _ same => spread565_injective same⟩

/-- An 8-bit alpha of at most 7 acts as 0 (R183). -/
theorem alpha_shift_eq_zero {alpha : Byte} (low : alpha.toNat ≤ 7) : alpha >>> 3 = 0#8 := by
  apply BitVec.eq_of_toNat_eq
  rw [BitVec.toNat_ushiftRight, Nat.shiftRight_eq_div_pow]
  exact Nat.div_eq_of_lt (Nat.lt_succ_of_le low)

/-- Settles O47: `blend565core_alpha_zero` holds for every foreground word, prepared or not. -/
theorem blend565AtAlphaZeroIsTheBackground : Obligations.Blend565AtAlphaZeroIsTheBackground := by
  refine ⟨fun s ready mask => ?_, by decide⟩
  have background (f : Word) {alpha : Byte} (zero : alpha = 0#8) :
      blend565core s.params.m565 f (low16 s.req.b) alpha = low16 s.req.b := by
    rw [mask, zero, blend565core_alpha_zero]
  refine ⟨fun zero => ?_, fun low => ?_, fun zero inside => ?_⟩
  · exact blend565_answers ready (by rw [zero]; decide) (background _ zero)
  · exact blend565A8_answers ready (background _ (alpha_shift_eq_zero low))
  · rw [← mask] at inside
    exact ⟨blend565p_answers ready (by rw [zero]; decide) inside (background _ zero),
      blend565pA8_answers ready inside (background _ (by rw [zero]; rfl))⟩

/-- Settles O48: the word PREP565 answers is the foreground word of the direct blend, and no bit of it is outside the
mask. -/
theorem preparedBlend565EqualsDirectBlend : Obligations.PreparedBlend565EqualsDirectBlend := by
  intro s ready
  refine ⟨_, _, prep565_answers ready, rfl, fun legal => ?_, ?_⟩
  · exact ⟨_, _, blend565p_answers ready legal (and_mask_outside _ _) rfl, blend565_answers ready legal rfl, rfl⟩
  · exact ⟨_, _, blend565pA8_answers ready (and_mask_outside _ _) rfl, blend565A8_answers ready rfl, rfl⟩

/-- Settles O43, by the cases of ALPHA and DEBUG_ASSERT. -/
theorem blend565Results : Obligations.Blend565Results :=
  ⟨fun _ ready =>
    ⟨fun legal => blend565_answers ready legal (blend565core_eq_blend565Of ..),
      fun above release => answers_of_checked_drawn ready rfl (alpha_illegal above) release rfl,
      fun above debug => entersFault_of_checked_debug ready rfl (alpha_illegal above) debug,
      blend565A8_answers ready (blend565core_eq_blend565Of ..)⟩, rfl⟩

/-- Settles O45, by the cases of the preconditions and DEBUG_ASSERT, for each command. -/
theorem preparedBlend565Results : Obligations.PreparedBlend565Results :=
  ⟨fun _ ready =>
    ⟨fun legal inside => blend565p_answers ready legal inside (blend565core_eq_blend565Of ..),
      fun fails release => answers_of_checked_drawn ready rfl (blend565p_illegal fails) release rfl,
      fun fails debug => entersFault_of_checked_debug ready rfl (blend565p_illegal fails) debug,
      fun inside => blend565pA8_answers ready inside (blend565core_eq_blend565Of ..),
      fun outside release => answers_of_checked_drawn ready rfl (prepared565_outside outside) release rfl,
      fun outside debug => entersFault_of_checked_debug ready rfl (prepared565_outside outside) debug⟩,
    blend565core_eq_blend565Of, rfl⟩

end Sys2Proof.Machine
end

section
/-! Proofs about the 888 blend (spec/44_blend888.md R200-R208): the lanes of the split words, the blend lane by lane,
and what the direct, the prepared and the ARGB-component commands answer. -/

namespace Sys2Proof.Machine
open Sys2Proof.Claims

/-! ## The split words (R200) -/

section
variable (c : Word)

/-- The red-blue word keeps the red and the blue lane in place. -/
theorem redBlueWord_toNat_or : (redBlueWord c).toNat = ((laneR c).toNat <<< 16) ||| (laneB c).toNat := by
  have lanes : maskRB.toNat = ((2 ^ 8 - 1) <<< 16) ||| ((2 ^ 8 - 1) <<< 0) := by decide
  rw [redBlueWord, BitVec.toNat_and, lanes, Nat.and_or_distrib_left, nat_and_field, nat_and_field, laneR, laneB,
    field_toNat, field_toNat, Nat.shiftLeft_zero]

/-- The green word keeps the green lane in place. -/
theorem greenWord_toNat_shiftLeft : (greenWord c).toNat = (laneG c).toNat <<< 8 := by
  have lane : maskG.toNat = (2 ^ 8 - 1) <<< 8 := by decide
  rw [greenWord, BitVec.toNat_and, lane, nat_and_field, laneG, field_toNat]

theorem redBlueWord_toNat : (redBlueWord c).toNat = (laneR c).toNat * 2 ^ 16 + (laneB c).toNat := by
  rw [redBlueWord_toNat_or, shift_or_toNat _ _ 16 (by omega)]

theorem greenWord_toNat : (greenWord c).toNat = (laneG c).toNat * 2 ^ 8 := by
  rw [greenWord_toNat_shiftLeft, Nat.shiftLeft_eq]

/-- The split words as the integers the lane law (R206) blends. -/
theorem redBlueWord_toInt : ((redBlueWord c).toNat : Int) = 65536 * (laneR c).toNat + (laneB c).toNat := by
  rw [redBlueWord_toNat]
  omega

theorem greenWord_toInt : ((greenWord c).toNat : Int) = 256 * (laneG c).toNat := by
  rw [greenWord_toNat]
  omega

/-- The words BLENDARGB forms of its byte lanes are the split words of its operands (R205). -/
theorem redBlueOfLanes_eq_redBlueWord : redBlueOfLanes c = redBlueWord c := by
  apply BitVec.eq_of_toNat_eq
  rw [redBlueOfLanes, BitVec.toNat_or, zeroFill_toNat _ (by decide), BitVec.zeroExtend_eq_setWidth,
    BitVec.toNat_setWidth_of_le (by decide), redBlueWord_toNat_or]

theorem greenOfLanes_eq_greenWord : greenOfLanes c = greenWord c := by
  apply BitVec.eq_of_toNat_eq
  rw [greenOfLanes, zeroFill_toNat _ (by decide), greenWord_toNat_shiftLeft]

theorem laneR_redBlueWord : laneR (redBlueWord c) = laneR c := by
  apply BitVec.eq_of_toNat_eq
  rw [laneR, field_toNat, redBlueWord_toNat]
  omega

theorem laneB_redBlueWord : laneB (redBlueWord c) = laneB c := by
  apply BitVec.eq_of_toNat_eq
  rw [laneB, field_toNat, redBlueWord_toNat]
  omega

theorem laneG_greenWord : laneG (greenWord c) = laneG c := by
  apply BitVec.eq_of_toNat_eq
  rw [laneG, field_toNat, greenWord_toNat]
  omega

end

/-- A red-blue word and a green word do not overlap: together they are their lanes packed. -/
theorem redBlueWord_or_greenWord (u v : Word) :
    redBlueWord u ||| greenWord v = up (pack888 (laneR u) (laneG v) (laneB u)) := by
  apply BitVec.eq_of_toNat_eq
  rw [BitVec.toNat_or, redBlueWord_toNat_or, greenWord_toNat_shiftLeft, up_pack888_toNat, Nat.or_assoc,
    Nat.or_comm (laneB u).toNat, shift_or_toNat _ _ 8 (by omega), shift_or_toNat _ _ 16 (by omega)]
  omega

/-! ## The core blend as two sums -/

/-- The sum of R201 before it is masked, of a foreground word toward a background word. -/
def lerpSum (w bw : Word) (alpha : Byte) : Word := w + (((bw - w) * alpha.zeroExtend 32) >>> 8)

theorem lerp888_maskRB (w bw : Word) (alpha : Byte) :
    lerp888 w bw alpha maskRB = redBlueWord (lerpSum w bw alpha) := rfl

theorem lerp888_maskG (w bw : Word) (alpha : Byte) :
    lerp888 w bw alpha maskG = greenWord (lerpSum w bw alpha) := rfl

/-- The core blend is the lanes of its two sums, packed. -/
theorem blend888core_eq_pack888 (frb fg bg : Word) (alpha : Byte) : blend888core frb fg bg alpha =
    up (pack888 (laneR (lerpSum frb (redBlueWord bg) alpha)) (laneG (lerpSum fg (greenWord bg) alpha))
      (laneB (lerpSum frb (redBlueWord bg) alpha))) := by
  rw [blend888core, lerp888_maskRB, lerp888_maskG, redBlueWord_or_greenWord]

theorem lerpSum_alpha_zero (w bw : Word) : lerpSum w bw 0#8 = w := by
  simp [lerpSum]

theorem lerpSum_self (w : Word) (alpha : Byte) : lerpSum w w alpha = w := by
  simp [lerpSum]

/-- Where the two sums are the foreground's split words, the blend is the foreground. -/
theorem blend888core_eq_foreground {fg bg : Word} {alpha : Byte}
    (redBlue : lerpSum (redBlueWord fg) (redBlueWord bg) alpha = redBlueWord fg)
    (green : lerpSum (greenWord fg) (greenWord bg) alpha = greenWord fg) :
    blend888core (redBlueWord fg) (greenWord fg) bg alpha = up (low24 fg) := by
  rw [blend888core_eq_pack888, redBlue, green, laneR_redBlueWord, laneG_greenWord, laneB_redBlueWord, pack888_lanes]

/-! ## The lane law (R206) -/

/-- A lane is the weighted mean of the two it is blended from, rounded down. -/
theorem lane888_eq_mean (a f b : Int) : lane888 a f b = ((256 - a) * f + a * b) / 256 := by
  have mean : (256 - a) * f + a * b = a * (b - f) + f * 256 := by grind
  rw [lane888, mean, Int.add_mul_ediv_right _ _ (by decide), Int.add_comm]

/-- The mean of two bytes is a byte. -/
theorem lane888_range (a f b : Byte) :
    0 ≤ lane888 a.toNat f.toNat b.toNat ∧ lane888 a.toNat f.toNat b.toNat < 256 := by
  have low (x : Int) (y : Byte) (hx : 0 ≤ x) : 0 ≤ x * y.toNat := Int.mul_nonneg hx (by omega)
  have high (x : Int) (y : Byte) (hx : 0 ≤ x) : x * y.toNat ≤ x * 255 := Int.mul_le_mul_of_nonneg_left (by omega) hx
  have weights : 0 ≤ (256 - a.toNat : Int) ∧ 0 ≤ (a.toNat : Int) := by omega
  have := low _ f weights.1
  have := high _ f weights.1
  have := low _ b weights.2
  have := high _ b weights.2
  rw [lane888_eq_mean]
  omega

/-- At alpha 255 a lane is within 1 of the background's (R207). -/
theorem lane888_alpha_max {f b y : Byte} (lane : (y.toNat : Int) = lane888 255 f.toNat b.toNat) :
    y.toNat ≤ b.toNat + 1 ∧ b.toNat ≤ y.toNat + 1 := by
  rw [lane888_eq_mean] at lane
  omega

/-- The product of R201 over the integers, wrapped once. -/
theorem difference_mul_toNat (w bw : Word) (alpha : Byte) :
    (((bw - w) * alpha.zeroExtend 32).toNat : Int) = alpha.toNat * (bw.toNat - w.toNat) % 2 ^ 32 := by
  have wide : (alpha.zeroExtend 32).toNat = alpha.toNat := BitVec.toNat_setWidth_of_le (by decide)
  have difference : ((bw - w).toNat : Int) = (bw.toNat - w.toNat) % 2 ^ 32 := by
    rw [BitVec.toNat_sub]
    omega
  rw [BitVec.toNat_mul, wide, Int.natCast_emod, Int.natCast_mul, difference, Int.mul_comm alpha.toNat]
  exact emod_mul_wraps _ _ _

/-- The sum below bit 24, over the integers: there the logical shift of the wrapped product is floor division. -/
theorem lerpSum_emod (w bw : Word) (alpha : Byte) : ((lerpSum w bw alpha).toNat : Int) % 2 ^ 24 =
    (w.toNat + alpha.toNat * (bw.toNat - w.toNat) / 256) % 2 ^ 24 := by
  have product := difference_mul_toNat w bw alpha
  rw [lerpSum, BitVec.toNat_add, BitVec.toNat_ushiftRight, Nat.shiftRight_eq_div_pow]
  generalize (alpha.toNat : Int) * (bw.toNat - w.toNat) = p at product ⊢
  omega

section
variable (fg bg : Word) (a : Byte)

/-- Blue's remainder stays in the eight bits between the lanes, so red and blue blend apart. -/
theorem lerpSum_redBlue_lanes :
    ((laneR (lerpSum (redBlueWord fg) (redBlueWord bg) a)).toNat : Int) =
      lane888 a.toNat (laneR fg).toNat (laneR bg).toNat ∧
    ((laneB (lerpSum (redBlueWord fg) (redBlueWord bg) a)).toNat : Int) =
      lane888 a.toNat (laneB fg).toNat (laneB bg).toNat := by
  have redRange := lane888_range a (laneR fg) (laneR bg)
  have blueRange := lane888_range a (laneB fg) (laneB bg)
  have blended := lerpSum_emod (redBlueWord fg) (redBlueWord bg) a
  rw [redBlueWord_toInt, redBlueWord_toInt] at blended
  rw [laneR, laneB, field_toNat, field_toNat]
  generalize laneR fg = fr, laneB fg = fb, laneR bg = br, laneB bg = bb at *
  have products : (a.toNat : Int) * (65536 * br.toNat + bb.toNat - (65536 * fr.toNat + fb.toNat)) =
      65536 * (a.toNat * (br.toNat - fr.toNat)) + a.toNat * (bb.toNat - fb.toNat) := by
    grind
  rw [products] at blended
  simp only [lane888] at *
  generalize (a.toNat : Int) * (br.toNat - fr.toNat) = pr at *
  generalize (a.toNat : Int) * (bb.toNat - fb.toNat) = pb at *
  omega

theorem lerpSum_green_lane : ((laneG (lerpSum (greenWord fg) (greenWord bg) a)).toNat : Int) =
    lane888 a.toNat (laneG fg).toNat (laneG bg).toNat := by
  have range := lane888_range a (laneG fg) (laneG bg)
  have blended := lerpSum_emod (greenWord fg) (greenWord bg) a
  rw [greenWord_toInt, greenWord_toInt] at blended
  rw [laneG, field_toNat]
  generalize laneG fg = f, laneG bg = b at *
  have product : (a.toNat : Int) * (256 * b.toNat - 256 * f.toNat) =
      256 * (a.toNat * (b.toNat - f.toNat)) := by
    grind
  rw [product] at blended
  simp only [lane888] at *
  generalize (a.toNat : Int) * (b.toNat - f.toNat) = p at *
  omega

/-- The blend of two colors is their lanes blended, packed. -/
theorem blend888core_lanes : ∃ r g b : Byte,
    blend888core (redBlueWord fg) (greenWord fg) bg a = up (pack888 r g b) ∧
    (r.toNat : Int) = lane888 a.toNat (laneR fg).toNat (laneR bg).toNat ∧
    (g.toNat : Int) = lane888 a.toNat (laneG fg).toNat (laneG bg).toNat ∧
    (b.toNat : Int) = lane888 a.toNat (laneB fg).toNat (laneB bg).toNat := by
  obtain ⟨red, blue⟩ := lerpSum_redBlue_lanes fg bg a
  exact ⟨_, _, _, blend888core_eq_pack888 .., red, lerpSum_green_lane fg bg a, blue⟩

end

/-- Settles O52: `blend888core_lanes` gives the lanes, and packing sums them. -/
theorem blend888LaneLaw : Obligations.Blend888LaneLaw := by
  intro fg bg a
  obtain ⟨r, g, b, core, red, green, blue⟩ := blend888core_lanes fg bg a
  rw [core, up_pack888_toNat, ← red, ← green, ← blue]
  rfl

/-! ## What the 888 commands answer -/

section
variable {s : State}

theorem prepared888_inside (redBlue : s.req.a &&& ~~~maskRB = 0#32) (green : s.req.c &&& ~~~maskG = 0#32) :
    prepared888 s = true :=
  decide_eq_true ⟨redBlue, green⟩

theorem prepared888_outside (outside : s.req.a &&& ~~~maskRB ≠ 0#32 ∨ s.req.c &&& ~~~maskG ≠ 0#32) :
    prepared888 s = false :=
  decide_eq_false fun ⟨redBlue, green⟩ => outside.elim (· redBlue) (· green)

variable {y : Word} (ready : s.Ready)
include ready

/-- BLEND888 completes; `blend` names the color. -/
theorem blend888_answers (blend : blend888core (redBlueWord s.req.a) (greenWord s.req.a) s.req.b s.req.alpha = y) :
    Answers .blend888 s { y0 := some y } := by
  rw [← inY0_word, ← blend]
  exact answers_of_respond ready rfl

theorem prep888_answers :
    Answers .prep888 s { y0 := some (redBlueWord s.req.a), y1 := some (greenWord s.req.a) } :=
  answers_of_respond ready rfl

/-- BLEND888P completes on words inside their masks; `blend` names the color. -/
theorem blend888p_answers (redBlue : s.req.a &&& ~~~maskRB = 0#32) (green : s.req.c &&& ~~~maskG = 0#32)
    (blend : blend888core s.req.a s.req.c s.req.b s.req.alpha = y) : Answers .blend888p s { y0 := some y } :=
  answers_of_checked ready rfl (prepared888_inside redBlue green) (by rw [blend, inY0_word])

/-- BLENDARGB completes with the lanes of the sums that BLEND888 packs. -/
theorem blendargb_answers : Answers .blendargb s
    { yr := some (laneR (lerpSum (redBlueWord s.req.a) (redBlueWord s.req.b) s.req.alpha))
      yg := some (laneG (lerpSum (greenWord s.req.a) (greenWord s.req.b) s.req.alpha))
      yb := some (laneB (lerpSum (redBlueWord s.req.a) (redBlueWord s.req.b) s.req.alpha)) } := by
  have answers : Answers .blendargb s _ := answers_of_respond ready rfl
  simpa only [components, redBlueOfLanes_eq_redBlueWord, greenOfLanes_eq_greenWord, lerp888_maskRB, lerp888_maskG,
    laneR_redBlueWord, laneG_greenWord, laneB_redBlueWord] using answers

/-- At alpha 0 BLEND888 gives the foreground (R207). -/
theorem blend888_alpha_zero (zero : s.req.alpha = 0#8) : Answers .blend888 s { y0 := some (up (low24 s.req.a)) } := by
  apply blend888_answers ready
  rw [zero]
  exact blend888core_eq_foreground (lerpSum_alpha_zero _ _) (lerpSum_alpha_zero _ _)

/-- Equal colors blend to themselves, whatever stands above their 24 bits (R202). -/
theorem blend888_self (same : low24 s.req.a = low24 s.req.b) :
    Answers .blend888 s { y0 := some (up (low24 s.req.a)) } := by
  have low : s.req.b.toNat % 2 ^ 24 = s.req.a.toNat % 2 ^ 24 := by
    have num := congrArg BitVec.toNat same
    rw [low24, low24, field_toNat, field_toNat] at num
    omega
  apply blend888_answers ready
  apply blend888core_eq_foreground
  · rw [redBlueWord_congr low (by decide), lerpSum_self]
  · rw [greenWord_congr low (by decide), lerpSum_self]

/-- At alpha 255 each channel is within 1 of the background's (R207). -/
theorem blend888_alpha_max (full : s.req.alpha = 255#8) :
    ∃ y, Answers .blend888 s { y0 := some y } ∧ y.toNat < 2 ^ 24 ∧
    ((laneR y).toNat ≤ (laneR s.req.b).toNat + 1 ∧ (laneR s.req.b).toNat ≤ (laneR y).toNat + 1) ∧
    ((laneG y).toNat ≤ (laneG s.req.b).toNat + 1 ∧ (laneG s.req.b).toNat ≤ (laneG y).toNat + 1) ∧
    ((laneB y).toNat ≤ (laneB s.req.b).toNat + 1 ∧ (laneB s.req.b).toNat ≤ (laneB y).toNat + 1) := by
  obtain ⟨r, g, b, core, red, green, blue⟩ := blend888core_lanes s.req.a s.req.b s.req.alpha
  rw [full] at red green blue
  refine ⟨_, blend888_answers ready core, ?_, ?_⟩
  · rw [up_pack888_toNat]
    omega
  · rw [laneR_up_pack888, laneG_up_pack888, laneB_up_pack888]
    exact ⟨lane888_alpha_max red, lane888_alpha_max green, lane888_alpha_max blue⟩

end

/-- Settles O51: both commands take the lanes of the same two sums. -/
theorem blendArgbEqualsBlend888 : Obligations.BlendArgbEqualsBlend888 := fun _ ready =>
  ⟨_, _, _, blendargb_answers ready, blend888_answers ready (blend888core_eq_pack888 ..)⟩

/-- Settles O53: at alpha 0 and on equal colors the sums are the foreground's words; at 255 by the lane law. -/
theorem blend888AtTheEndsOfAlpha : Obligations.Blend888AtTheEndsOfAlpha :=
  ⟨fun _ ready => blend888_alpha_zero ready, fun _ ready => blend888_alpha_max ready,
    fun _ ready => blend888_self ready, by decide⟩

/-- Settles O54: the words PREP888 answers are the foreground words of the direct blend, and no bit of them is outside
their masks. -/
theorem preparedBlend888EqualsDirectBlend : Obligations.PreparedBlend888EqualsDirectBlend := fun _ ready =>
  ⟨_, _, _, _, _, prep888_answers ready, rfl, rfl,
    blend888p_answers ready (and_mask_outside _ _) (and_mask_outside _ _) rfl, blend888_answers ready rfl, rfl⟩

/-- Settles O49: the words of R200 and the sums of R201 are the model's by definition. -/
theorem blend888Results : Obligations.Blend888Results :=
  ⟨fun _ ready => ⟨blend888_answers ready rfl, prep888_answers ready⟩, rfl⟩

/-- Settles O50, by the cases of the preconditions and DEBUG_ASSERT. -/
theorem preparedBlend888Results : Obligations.PreparedBlend888Results :=
  ⟨fun _ ready =>
    ⟨fun redBlue green => blend888p_answers ready redBlue green rfl,
      fun outside release => answers_of_checked_drawn ready rfl (prepared888_outside outside) release rfl,
      fun outside debug => entersFault_of_checked_debug ready rfl (prepared888_outside outside) debug⟩, rfl⟩

end Sys2Proof.Machine
end

section
/-! Proofs about faults and the halted state (spec/60_exceptions.md R220-R228): HALTED until reset, NULL_DECODER,
PRECONDITION, and the order in which PFC takes the events of one request. -/

namespace Sys2Proof.Machine
open Sys2Proof.Claims

/-! ## The halted state -/

theorem step_reset {s : State} {rest : List Action} (p : s.phase = .between) (e : s.program = .reset :: rest) :
    step s = .next ({ s with program := rest }.platformReset) := by
  simp [step, stepBetween, p, e]

theorem step_abandon {s : State} (p : s.phase = .resetting) : step s = .next s.abandon := by
  simp [step, p]

theorem step_of_resetIsNext {s : State} (h : resetIsNext s) : ∃ t, step s = .next t ∧ t.faulted = false := by
  rcases h with ⟨p, rest, e⟩ | p
  · exact ⟨_, step_reset p e, by simp [State.faulted]⟩
  · exact ⟨_, step_abandon p, by simp [State.faulted]⟩

/-- Settles O13: `exec_halted` and `answer_halted` are HALTED, and by O14 a step of a halted PFC writes STATUS only by a
reset. -/
theorem haltedUntilReset : Obligations.HaltedUntilReset := by
  refine ⟨fun i s faulted => exec_halted faulted i, fun s faulted => answer_halted faulted,
    fun s t faulted h notReset => ?_, fun s reset => step_of_resetIsNext reset⟩
  rcases statusChangesOnlyByFaultEntryOrReset s t h with same | ⟨ready, -⟩ | ⟨reset, -⟩
  · exact same
  · exact absurd (ready.symm.trans faulted) nofun
  · exact absurd reset notReset

/-! ## NULL_DECODER -/

/-- Settles O27: the handles without a routine are those that are not valid. -/
theorem invalidHandleRaisesNullDecoder : Obligations.InvalidHandleRaisesNullDecoder := by
  intro h s invalid ready
  rw [← validHandle_iff, Bool.not_eq_true] at invalid
  exact exec_decode_invalid ready invalid

/-! ## PRECONDITION -/

theorem eq_mono_of_code {fmt : PixelFormat} (code : fmt.code.toNat = 8) : fmt = .mono := by
  revert code; cases fmt <;> decide

/-- With BITIX above 7 in debug mode the Mono routine of each representation enters PRECONDITION, under both of its names
(R72, R224). -/
theorem monoRow_entersPrecondition {s : State} (ready : s.Ready) (above : 7 < s.req.bitix.toNat)
    (debug : s.params.debugAssert = true) {rep : Nat} {row : Instr} (h : (rep, 8, row) ∈ routineRows) :
    EntersFault (exec row s) s 0x07#8 ∧
      EntersFault (exec (.decode (BitVec.ofNat 8 (0x40 + 16 * rep + 8))) s) s 0x07#8 := by
  obtain ⟨target, format, -, code, run⟩ := routineRows_run h
  obtain rfl := eq_mono_of_code code
  obtain ⟨row_eq, decode_eq⟩ := run s
  obtain ⟨n, drawn, lit, mono⟩ := runRoutine_mono target s
  exact ⟨entersFault_of_monoDebug ready above debug (row_eq.trans mono),
    entersFault_of_monoDebug ready above debug (decode_eq.trans mono)⟩

/-- Settles O36, by the commands of R224's table. -/
theorem failedPreconditionInDebugModeRaisesPrecondition :
    Obligations.FailedPreconditionInDebugModeRaisesPrecondition := by
  intro s ready debug
  refine ⟨fun above => entersFault_of_checked_debug ready rfl (alpha_illegal above) debug,
    fun fails => entersFault_of_checked_debug ready rfl (blend565p_illegal fails) debug,
    fun outside => entersFault_of_checked_debug ready rfl (prepared565_outside outside) debug,
    fun outside => entersFault_of_checked_debug ready rfl (prepared888_outside outside) debug, fun above => ?_⟩
  have mono {rep : Nat} {row : Instr} (h : (rep, 8, row) ∈ routineRows) :=
    monoRow_entersPrecondition ready above debug h
  obtain ⟨row0, decode0⟩ := mono (rep := 0) (row := .decode565A5Mono) (by decide)
  obtain ⟨row1, decode1⟩ := mono (rep := 1) (row := .decode565A8Mono) (by decide)
  obtain ⟨row2, decode2⟩ := mono (rep := 2) (row := .decodeArgbMono) (by decide)
  obtain ⟨row3, decode3⟩ := mono (rep := 3) (row := .decodePacked32Mono) (by decide)
  simp only [List.forall_mem_cons]
  exact ⟨row0, row1, row2, row3, decode0, decode1, decode2, decode3, nofun⟩

/-! ## The order of the events of one request (R228) -/

/-- The result of a request whose precondition `holds` or is passed over: a next state with STATUS unchanged, and draws
exactly where the precondition fails (R225). -/
def GivesResult (s : State) (holds : Prop) (o : Result) : Prop :=
  ∃ t, o = .next t ∧ t.status = s.status ∧ (holds → t.draws = s.draws) ∧ (¬ holds → s.draws < t.draws)

/-- Steps 7 and 8 of R228: a `stuck` read comes before the result. -/
def ReadsBeforeResult (s : State) (holds stuck : Prop) (o : Result) : Prop :=
  (stuck → o = .fault .stuckUnadmittedRead) ∧ (¬ stuck → GivesResult s holds o)

/-- Steps 6 to 8 of R228: PRECONDITION comes before the read and the result. -/
def ChecksBeforeRead (s : State) (holds stuck : Prop) (o : Result) : Prop :=
  (s.params.debugAssert = true ∧ ¬ holds → EntersFault o s 0x07#8) ∧
    (¬ (s.params.debugAssert = true ∧ ¬ holds) → ReadsBeforeResult s holds stuck o)

/-! ## What each operation gives, in that order -/

section
variable {s : State} {holds stuck : Prop}

theorem givesResult_respond (h : holds) (r : Response) : GivesResult s holds (.next (s.respond r)) :=
  ⟨_, rfl, rfl, fun _ => rfl, absurd h⟩

theorem givesResult_drawn (fails : ¬ holds) {n : Nat} (draws : 0 < n) (r : Response) :
    GivesResult s holds (respondDrawn n r s) :=
  ⟨_, rfl, rfl, (absurd · fails), fun _ => Nat.lt_add_of_pos_right draws⟩

theorem readsBeforeResult_of_noRead {o : Result} (noRead : ¬ stuck) (result : GivesResult s holds o) :
    ReadsBeforeResult s holds stuck o :=
  ⟨(absurd · noRead), fun _ => result⟩

theorem readsBeforeResult_withPixel {fmt : PixelFormat} {body : Word → Result}
    (result : ∀ v, GivesResult s holds (body v)) :
    ReadsBeforeResult s holds (¬ bytesAdmitted s fmt.readWidth) (withPixel fmt s body) := by
  have admitted_iff : (s.memRead s.req.addr fmt.readWidth).isSome = true ↔ bytesAdmitted s fmt.readWidth :=
    s.memRead_isSome_iff s.req.addr fmt.readWidth
  rw [← admitted_iff]
  cases read : s.memRead s.req.addr fmt.readWidth with
  | none => exact ⟨fun _ => withPixel_stuck read body, fun read => absurd nofun read⟩
  | some v => exact ⟨fun unread => absurd rfl unread, fun _ => withPixel_read read body ▸ result v⟩

variable (ready : s.Ready)
include ready

/-- A command without a precondition of its own. -/
theorem checksBeforeRead_transact {body : Result} (h : holds) (finish : ReadsBeforeResult s holds stuck body) :
    ChecksBeforeRead s holds stuck (transact s body) := by
  rw [transact_ready ready]
  exact ⟨fun ⟨_, fails⟩ => absurd h fails, fun _ => finish⟩

/-- A command with a precondition, which `ok` decides. -/
theorem checksBeforeRead_checked {ok : Bool} {violated body : Result} (decides : ok = true ↔ holds)
    (drawn : ¬ holds → ReadsBeforeResult s holds stuck violated)
    (finish : holds → ReadsBeforeResult s holds stuck body) :
    ChecksBeforeRead s holds stuck (transact s (checked ok s violated body)) := by
  cases ok with
  | true =>
    have h : holds := decides.mp rfl
    exact checksBeforeRead_transact ready h (finish h)
  | false =>
    have fails : ¬ holds := fun h => nomatch decides.mpr h
    rw [transact_ready ready]
    cases assert : s.params.debugAssert with
    | true =>
      rw [checked_debug assert]
      exact ⟨fun _ => raiseFault_entersFault .precondition s, fun passed => absurd ⟨assert, fails⟩ passed⟩
    | false =>
      rw [checked_release assert]
      exact ⟨fun ⟨debug, _⟩ => absurd (assert.symm.trans debug) nofun, fun _ => drawn fails⟩

/-- A Mono routine checks BITIX before it reads its pixel (R102, R224). -/
theorem checksBeforeRead_decodeMonoRoutine {n : Nat} (draws : 0 < n) (drawn : Response) (lit : Bool → Response) :
    ChecksBeforeRead s (s.req.bitix.toNat ≤ 7) (¬ bytesAdmitted s PixelFormat.mono.readWidth)
      (decodeMonoRoutine s n drawn lit) :=
  checksBeforeRead_checked ready decide_eq_true_iff
    (fun fails => readsBeforeResult_withPixel fun _ => givesResult_drawn fails draws drawn)
    (fun legal => readsBeforeResult_withPixel fun _ => givesResult_respond legal _)

/-- Each of the 32 routines reads its pixel and responds; those of Mono check BITIX before. -/
theorem checksBeforeRead_runRoutine (rep : TargetRep) {fmt : PixelFormat} (decodable : fmt.decodable = true) :
    ChecksBeforeRead s (fmt.code.toNat = 8 → s.req.bitix.toNat ≤ 7) (¬ bytesAdmitted s fmt.readWidth)
      (runRoutine rep fmt s) := by
  cases fmt with
  | unknown | indexed => cases decodable
  | rgb565 | argb4444 | argb6666 | argb8565 | rgb888 | argb8888 | grayscale =>
    cases rep <;> exact checksBeforeRead_transact ready (fun code => nomatch code)
      (readsBeforeResult_withPixel fun _ => givesResult_respond (fun code => nomatch code) _)
  | mono =>
    have bitix_iff : (PixelFormat.mono.code.toNat = 8 → s.req.bitix.toNat ≤ 7) ↔ s.req.bitix.toNat ≤ 7 :=
      forall_prop_of_true rfl
    rw [bitix_iff]
    cases rep with
    | to565A5 | to565A8 | toArgb | toPacked32 =>
      dsimp only [runRoutine, runTo565A5, runTo565A8, runToArgb, runToPacked32, execDecode565A5Mono,
        execDecode565A8Mono, execDecodeArgbMono, execDecodePacked32Mono]
      exact checksBeforeRead_decodeMonoRoutine ready (by decide) _ _

end

/-! ## The order, by the command word -/

theorem handleOf_code (rep : TargetRep) (fmt : PixelFormat) : (handleOf rep fmt).toNat % 16 = fmt.code.toNat := by
  cases rep <;> cases fmt <;> rfl

/-- Of the words, those of DECODE alone read pixel memory: the read that is stuck, by the word (R83, R223). -/
def ReadStuck (s : State) : Prop := opcOf s.req.cmd = 0x04 ∧ ¬ bytesAdmitted s (widthOf (selOf s.req.cmd % 16))

section
variable {s : State}

/-- A DECODE word with a valid handle runs the routine of the handle's target, whose format is in SEL (R66, R83). -/
theorem answer_validHandle (rsv : rsvOf s.req.cmd = 0) (opc : opcOf s.req.cmd = 0x04)
    (valid : validHandleNumber (selOf s.req.cmd)) :
    ∃ (rep : TargetRep) (fmt : PixelFormat), fmt.decodable = true ∧ selOf s.req.cmd % 16 = fmt.code.toNat ∧
      answer s = runRoutine rep fmt s := by
  have fields : HasFields s.req.cmd 0x04#8 (cmdSel s.req.cmd) := hasFields_iff.mpr ⟨opc, (cmdSel_toNat _).symm, rsv⟩
  obtain ⟨-, sel, -⟩ := hasFields_iff.mp fields
  rw [sel, ← validHandle_iff, validHandle, Option.isSome_iff_exists] at valid
  obtain ⟨⟨rep, fmt⟩, target⟩ := valid
  obtain ⟨handle_eq, decodable⟩ := handleTarget?_sound _ _ target
  obtain ⟨row, lookup, -, -, run⟩ := runRoutine_row rep decodable
  rw [← handle_eq] at lookup
  have command : decodeCmd s.req.cmd = .command row :=
    (decodeCmd_decode fields).trans (selFormH_eq_command_iff.mpr (.inl lookup))
  refine ⟨rep, fmt, decodable, ?_, (answer_command command).trans (run s).symm⟩
  rw [sel, handle_eq, handleOf_code]

/-! The precondition of R224, by the opcode that has one, is what the model's command checks. -/

theorem blend565_decides (opc : opcOf s.req.cmd = 0x20) :
    decide (s.req.alpha ≤ 31#8) = true ↔ preconditionHolds s := by
  simp [preconditionHolds, opc, BitVec.le_def]

theorem blend565p_decides (opc : opcOf s.req.cmd = 0x23) :
    (decide (s.req.alpha ≤ 31#8) && prepared565 s) = true ↔ preconditionHolds s := by
  simp [preconditionHolds, opc, prepared565, BitVec.le_def]

theorem blend565pA8_decides (opc : opcOf s.req.cmd = 0x24) : prepared565 s = true ↔ preconditionHolds s := by
  simp [preconditionHolds, opc, prepared565]

theorem blend888p_decides (opc : opcOf s.req.cmd = 0x2A) : prepared888 s = true ↔ preconditionHolds s := by
  rw [prepared888, decide_eq_true_iff]
  simp [preconditionHolds, opc, maskRB, maskG]

variable (ready : s.Ready)
include ready

/-- A DECODE of a valid handle, its word naming the format and with it BITIX and the bytes read. -/
theorem checksBeforeRead_decode (rsv : rsvOf s.req.cmd = 0) (opc : opcOf s.req.cmd = 0x04)
    (valid : validHandleNumber (selOf s.req.cmd)) :
    ChecksBeforeRead s (preconditionHolds s) (ReadStuck s) (answer s) := by
  obtain ⟨rep, fmt, decodable, format, run⟩ := answer_validHandle rsv opc valid
  have holds_iff : preconditionHolds s ↔ (fmt.code.toNat = 8 → s.req.bitix.toNat ≤ 7) := by
    simp [preconditionHolds, opc, format]
  have stuck_iff : ReadStuck s ↔ ¬ bytesAdmitted s fmt.readWidth := by
    rw [ReadStuck, format, widthOf_code decodable]
    exact and_iff_right opc
  rw [run, holds_iff, stuck_iff]
  exact checksBeforeRead_runRoutine ready rep decodable

/-- A command that reads no memory and has no precondition. -/
theorem checksBeforeRead_respond {n : Nat} (opc : opcOf s.req.cmd = n) (unchecked : n ∉ [0x04, 0x20, 0x23, 0x24, 0x2A])
    (r : Response) :
    ChecksBeforeRead s (preconditionHolds s) (ReadStuck s) (transact s (.next (s.respond r))) := by
  have holds : preconditionHolds s := by simp_all [preconditionHolds]
  have noRead : ¬ ReadStuck s := fun ⟨decode, _⟩ => unchecked (by simp [← opc, decode])
  exact checksBeforeRead_transact ready holds (readsBeforeResult_of_noRead noRead (givesResult_respond holds r))

/-- A command that reads no memory and has a precondition. -/
theorem checksBeforeRead_drawn {n : Nat} (opc : opcOf s.req.cmd = n) (notDecode : n ≠ 0x04) {ok : Bool}
    (decides : ok = true ↔ preconditionHolds s) (drawn r : Response) :
    ChecksBeforeRead s (preconditionHolds s) (ReadStuck s)
      (transact s (checked ok s (respondDrawn 1 drawn s) (.next (s.respond r)))) := by
  have noRead : ¬ ReadStuck s := fun ⟨decode, _⟩ => notDecode (opc.symm.trans decode)
  exact checksBeforeRead_checked ready decides
    (fun fails => readsBeforeResult_of_noRead noRead (givesResult_drawn fails Nat.one_pos drawn))
    (fun holds => readsBeforeResult_of_noRead noRead (givesResult_respond holds r))

/-- The commands other than DECODE: four have a precondition (R224), the others just respond. -/
theorem checksBeforeRead_exec {i : Instr} (word : encode i = s.req.cmd) (notDecode : opcOf s.req.cmd ≠ 0x04) :
    ChecksBeforeRead s (preconditionHolds s) (ReadStuck s) (exec i s) := by
  have opc : opcOf s.req.cmd = opcOf (encode i) := congrArg opcOf word.symm
  cases i with
  | hasAlpha fmt =>
    exact checksBeforeRead_respond ready (opc.trans (hasFields_iff.mp (encode_hasAlpha fmt)).1) (by decide) _
  | byteWidth fmt =>
    exact checksBeforeRead_respond ready (opc.trans (hasFields_iff.mp (encode_byteWidth fmt)).1) (by decide) _
  | lookup fmt rep =>
    exact checksBeforeRead_respond ready (opc.trans (hasFields_iff.mp (encode_lookup fmt rep)).1) (by decide) _
  | decode handle => exact absurd (opc.trans (hasFields_iff.mp (encode_decode handle)).1) notDecode
  | cvtRgbTo565 | cvt565ToRgb | cvt888To565 | cvt565To888 | cvt8888To565A8 | cvt8888To565A5 | cvt8565To8888
  | cvtGrayTo565 | cvtGrayTo888 | cvt565ToGray | cvt888ToGray | cvtMonoTo565 | cvtMonoTo888 | cvt565ToMono
  | cvt888ToMono | blend565A8 | prep565 | blend888 | prep888 | blendargb =>
    exact checksBeforeRead_respond ready opc (by decide) _
  | blend565 => exact checksBeforeRead_drawn ready opc (by decide) (blend565_decides opc) _ _
  | blend565p => exact checksBeforeRead_drawn ready opc (by decide) (blend565p_decides opc) _ _
  | blend565pA8 => exact checksBeforeRead_drawn ready opc (by decide) (blend565pA8_decides opc) _ _
  | blend888p => exact checksBeforeRead_drawn ready opc (by decide) (blend888p_decides opc) _ _
  | _ => exact absurd opc notDecode

end

/-- Settles O20: HALTED and the illegal words by O13 and O3, then a DECODE by its handle and any other command by its
precondition. -/
theorem answersFollowThePriority : Obligations.AnswersFollowThePriority := by
  intro s
  refine ⟨fun faulted => answer_halted faulted, fun ready => ⟨fun illegal => answer_illegalWord ready illegal,
    fun legal => ?_⟩⟩
  have rsv : rsvOf s.req.cmd = 0 := Decidable.byContradiction fun rsv => legal (.inl rsv)
  refine ⟨fun ⟨opc, invalid⟩ => ?_, fun notNull => ?_⟩
  · obtain ⟨handle, command, invalid⟩ := decodeCmd_invalidHandle rsv opc invalid
    rw [answer_command command]
    exact exec_decode_invalid ready invalid
  · change ChecksBeforeRead s (preconditionHolds s) (ReadStuck s) (answer s)
    by_cases opc : opcOf s.req.cmd = 0x04
    · exact checksBeforeRead_decode ready rsv opc (Classical.not_not.mp fun invalid => notNull ⟨opc, invalid⟩)
    · obtain ⟨i, command⟩ := exists_command_of_legal legal
      rw [answer_command command]
      exact checksBeforeRead_exec ready (commandWordIsItsEncoding _ _ command).1 opc

end Sys2Proof.Machine
end

section
/-! Proofs about reset (spec/70_reset_and_hazards.md R250): what it does between transactions and to the transaction it
abandons. -/

namespace Sys2Proof.Machine

/-- Between transactions a reset leaves the turn with the host: STATUS, the response and the racing writes are what it
clears. -/
theorem State.platformReset_of_between {s : State} (p : s.phase = .between) :
    s.platformReset = { s with status := 0x00#8, rsp := {}, racing := [] } := by
  rw [State.platformReset, ← p]

/-- Settles O9, by the step of the turn: the reset action, the issue of a request that a reset abandons, and the reset
that abandons it. -/
theorem resetClearsStatusAndUndrivesTheResponse : Obligations.ResetClearsStatusAndUndrivesTheResponse := by
  intro s r rest
  refine ⟨fun p reset => ?_, fun p abandoned => ?_, fun p => ?_⟩
  · have between : { s with program := rest }.phase = .between := p
    rw [step_reset p reset, State.platformReset_of_between between]
  · exact step_issueAbandoned p abandoned
  · exact step_abandon p

end Sys2Proof.Machine
end
